-- ==== Sys2Proof/Word.lean ====
section
/-! DEFINITION. The two word types of the CPU (spec/00_scope.md R10): 8-bit data and 16-bit addresses. -/

namespace Sys2Proof

/-- One byte of CPU or PPU data. -/
abbrev Byte := BitVec 8

/-- One 16-bit CPU address or program-counter value. -/
abbrev Word := BitVec 16

end Sys2Proof
end

