-- ==== Sys2Proof/Syntax.lean ====
section
/-! DEFINITION. The instructions of the core: one constructor for each of the 256 rows of spec/opcode_table.json
(spec/30_encoding.md R310, R311, R330), with its operand byte or word. -/

namespace Sys2Proof

/-- The memory addressing modes, with their operand bytes (R404-R409). -/
inductive MemMode where
  | zp (a : Byte)
  | zpX (a : Byte)
  | zpY (a : Byte)
  | abs (a : Word)
  | absX (a : Word)
  | absY (a : Word)
  /-- `(zp,X)`, indexed indirect. -/
  | izx (a : Byte)
  /-- `(zp),Y`, indirect indexed. -/
  | izy (a : Byte)
  deriving DecidableEq, Repr

/-- The operand forms of R301, one for each format of the table. -/
inductive Operand where
  | imp
  | acc
  | imm (b : Byte)
  | mem (m : MemMode)
  | ind (a : Word)
  | rel (off : Byte)
  deriving DecidableEq, Repr

/-- The 65 mnemonics of the table; `unknown` is the table's name for the 29 null descriptors (R330). -/
inductive Mnemonic where
  | brk | ora | unknown | slo | nop | asl | php | bpl | clc | jsr | and_ | rla | bit | rol | plp
  | bmi | sec | rti | eor | sre | lsr | pha | jmp | bvc | cli | rts | adc | rra | ror | pla | bvs
  | sei | sta | sax | sty | stx | dey | txa | bcc | tya | txs | ldy | lda | ldx | lax | tay | tax
  | bcs | clv | tsx | cpy | cmp | dcp | dec | iny | dex | bne | cld | cpx | sbc | isb | inc | inx
  | beq | sed
  deriving DecidableEq, Repr

/-- One constructor for each row of the table: first the rows with an operand, then those without one, then the
null entries, each part in the order of the opcode byte (Lean's runtime bounds the tag of a constructor with a
field). A name is the mnemonic and the
mode; where the table has a second row of the same mnemonic and mode, the unofficial one ends in its opcode. An
`unknown` row is no instruction: it is what the fetch of that byte finds (R330), and `wellFormed` refuses it. -/
inductive Instr where
  | oraIzx (a : Byte)     -- $01 ORA (zp,X)
  | sloIzx (a : Byte)     -- $03 (unofficial) SLO (zp,X)
  | nopZp04 (a : Byte)    -- $04 (unofficial) NOP zp
  | oraZp (a : Byte)      -- $05 ORA zp
  | aslZp (a : Byte)      -- $06 ASL zp
  | sloZp (a : Byte)      -- $07 (unofficial) SLO zp
  | oraImm (a : Byte)     -- $09 ORA #
  | nopAbs0C (a : Word)   -- $0C (unofficial) NOP abs
  | oraAbs (a : Word)     -- $0D ORA abs
  | aslAbs (a : Word)     -- $0E ASL abs
  | sloAbs (a : Word)     -- $0F (unofficial) SLO abs
  | bpl (a : Byte)        -- $10 BPL rel
  | oraIzy (a : Byte)     -- $11 ORA (zp),Y
  | sloIzy (a : Byte)     -- $13 (unofficial) SLO (zp),Y
  | nopZpx14 (a : Byte)   -- $14 (unofficial) NOP zp,X
  | oraZpx (a : Byte)     -- $15 ORA zp,X
  | aslZpx (a : Byte)     -- $16 ASL zp,X
  | sloZpx (a : Byte)     -- $17 (unofficial) SLO zp,X
  | oraAbsy (a : Word)    -- $19 ORA abs,Y
  | sloAbsy (a : Word)    -- $1B (unofficial) SLO abs,Y
  | nopAbsx1C (a : Word)  -- $1C (unofficial) NOP abs,X
  | oraAbsx (a : Word)    -- $1D ORA abs,X
  | aslAbsx (a : Word)    -- $1E ASL abs,X
  | sloAbsx (a : Word)    -- $1F (unofficial) SLO abs,X
  | jsr (a : Word)        -- $20 JSR abs
  | andIzx (a : Byte)     -- $21 AND (zp,X)
  | rlaIzx (a : Byte)     -- $23 (unofficial) RLA (zp,X)
  | bitZp (a : Byte)      -- $24 BIT zp
  | andZp (a : Byte)      -- $25 AND zp
  | rolZp (a : Byte)      -- $26 ROL zp
  | rlaZp (a : Byte)      -- $27 (unofficial) RLA zp
  | andImm (a : Byte)     -- $29 AND #
  | bitAbs (a : Word)     -- $2C BIT abs
  | andAbs (a : Word)     -- $2D AND abs
  | rolAbs (a : Word)     -- $2E ROL abs
  | rlaAbs (a : Word)     -- $2F (unofficial) RLA abs
  | bmi (a : Byte)        -- $30 BMI rel
  | andIzy (a : Byte)     -- $31 AND (zp),Y
  | rlaIzy (a : Byte)     -- $33 (unofficial) RLA (zp),Y
  | nopZpx34 (a : Byte)   -- $34 (unofficial) NOP zp,X
  | andZpx (a : Byte)     -- $35 AND zp,X
  | rolZpx (a : Byte)     -- $36 ROL zp,X
  | rlaZpx (a : Byte)     -- $37 (unofficial) RLA zp,X
  | andAbsy (a : Word)    -- $39 AND abs,Y
  | rlaAbsy (a : Word)    -- $3B (unofficial) RLA abs,Y
  | nopAbsx3C (a : Word)  -- $3C (unofficial) NOP abs,X
  | andAbsx (a : Word)    -- $3D AND abs,X
  | rolAbsx (a : Word)    -- $3E ROL abs,X
  | rlaAbsx (a : Word)    -- $3F (unofficial) RLA abs,X
  | eorIzx (a : Byte)     -- $41 EOR (zp,X)
  | sreIzx (a : Byte)     -- $43 (unofficial) SRE (zp,X)
  | nopZp44 (a : Byte)    -- $44 (unofficial) NOP zp
  | eorZp (a : Byte)      -- $45 EOR zp
  | lsrZp (a : Byte)      -- $46 LSR zp
  | sreZp (a : Byte)      -- $47 (unofficial) SRE zp
  | eorImm (a : Byte)     -- $49 EOR #
  | jmpAbs (a : Word)     -- $4C JMP abs
  | eorAbs (a : Word)     -- $4D EOR abs
  | lsrAbs (a : Word)     -- $4E LSR abs
  | sreAbs (a : Word)     -- $4F (unofficial) SRE abs
  | bvc (a : Byte)        -- $50 BVC rel
  | eorIzy (a : Byte)     -- $51 EOR (zp),Y
  | sreIzy (a : Byte)     -- $53 (unofficial) SRE (zp),Y
  | nopZpx54 (a : Byte)   -- $54 (unofficial) NOP zp,X
  | eorZpx (a : Byte)     -- $55 EOR zp,X
  | lsrZpx (a : Byte)     -- $56 LSR zp,X
  | sreZpx (a : Byte)     -- $57 (unofficial) SRE zp,X
  | eorAbsy (a : Word)    -- $59 EOR abs,Y
  | sreAbsy (a : Word)    -- $5B (unofficial) SRE abs,Y
  | nopAbsx5C (a : Word)  -- $5C (unofficial) NOP abs,X
  | eorAbsx (a : Word)    -- $5D EOR abs,X
  | lsrAbsx (a : Word)    -- $5E LSR abs,X
  | sreAbsx (a : Word)    -- $5F (unofficial) SRE abs,X
  | adcIzx (a : Byte)     -- $61 ADC (zp,X)
  | rraIzx (a : Byte)     -- $63 (unofficial) RRA (zp,X)
  | nopZp64 (a : Byte)    -- $64 (unofficial) NOP zp
  | adcZp (a : Byte)      -- $65 ADC zp
  | rorZp (a : Byte)      -- $66 ROR zp
  | rraZp (a : Byte)      -- $67 (unofficial) RRA zp
  | adcImm (a : Byte)     -- $69 ADC #
  | jmpInd (a : Word)     -- $6C JMP (ind)
  | adcAbs (a : Word)     -- $6D ADC abs
  | rorAbs (a : Word)     -- $6E ROR abs
  | rraAbs (a : Word)     -- $6F (unofficial) RRA abs
  | bvs (a : Byte)        -- $70 BVS rel
  | adcIzy (a : Byte)     -- $71 ADC (zp),Y
  | rraIzy (a : Byte)     -- $73 (unofficial) RRA (zp),Y
  | nopZpx74 (a : Byte)   -- $74 (unofficial) NOP zp,X
  | adcZpx (a : Byte)     -- $75 ADC zp,X
  | rorZpx (a : Byte)     -- $76 ROR zp,X
  | rraZpx (a : Byte)     -- $77 (unofficial) RRA zp,X
  | adcAbsy (a : Word)    -- $79 ADC abs,Y
  | rraAbsy (a : Word)    -- $7B (unofficial) RRA abs,Y
  | nopAbsx7C (a : Word)  -- $7C (unofficial) NOP abs,X
  | adcAbsx (a : Word)    -- $7D ADC abs,X
  | rorAbsx (a : Word)    -- $7E ROR abs,X
  | rraAbsx (a : Word)    -- $7F (unofficial) RRA abs,X
  | nopImm80 (a : Byte)   -- $80 (unofficial) NOP #
  | staIzx (a : Byte)     -- $81 STA (zp,X)
  | saxIzx (a : Byte)     -- $83 (unofficial) SAX (zp,X)
  | styZp (a : Byte)      -- $84 STY zp
  | staZp (a : Byte)      -- $85 STA zp
  | stxZp (a : Byte)      -- $86 STX zp
  | saxZp (a : Byte)      -- $87 (unofficial) SAX zp
  | styAbs (a : Word)     -- $8C STY abs
  | staAbs (a : Word)     -- $8D STA abs
  | stxAbs (a : Word)     -- $8E STX abs
  | saxAbs (a : Word)     -- $8F (unofficial) SAX abs
  | bcc (a : Byte)        -- $90 BCC rel
  | staIzy (a : Byte)     -- $91 STA (zp),Y
  | styZpx (a : Byte)     -- $94 STY zp,X
  | staZpx (a : Byte)     -- $95 STA zp,X
  | stxZpy (a : Byte)     -- $96 STX zp,Y
  | saxZpy (a : Byte)     -- $97 (unofficial) SAX zp,Y
  | staAbsy (a : Word)    -- $99 STA abs,Y
  | staAbsx (a : Word)    -- $9D STA abs,X
  | ldyImm (a : Byte)     -- $A0 LDY #
  | ldaIzx (a : Byte)     -- $A1 LDA (zp,X)
  | ldxImm (a : Byte)     -- $A2 LDX #
  | laxIzx (a : Byte)     -- $A3 (unofficial) LAX (zp,X)
  | ldyZp (a : Byte)      -- $A4 LDY zp
  | ldaZp (a : Byte)      -- $A5 LDA zp
  | ldxZp (a : Byte)      -- $A6 LDX zp
  | laxZp (a : Byte)      -- $A7 (unofficial) LAX zp
  | ldaImm (a : Byte)     -- $A9 LDA #
  | ldyAbs (a : Word)     -- $AC LDY abs
  | ldaAbs (a : Word)     -- $AD LDA abs
  | ldxAbs (a : Word)     -- $AE LDX abs
  | laxAbs (a : Word)     -- $AF (unofficial) LAX abs
  | bcs (a : Byte)        -- $B0 BCS rel
  | ldaIzy (a : Byte)     -- $B1 LDA (zp),Y
  | laxIzy (a : Byte)     -- $B3 (unofficial) LAX (zp),Y
  | ldyZpx (a : Byte)     -- $B4 LDY zp,X
  | ldaZpx (a : Byte)     -- $B5 LDA zp,X
  | ldxZpy (a : Byte)     -- $B6 LDX zp,Y
  | laxZpy (a : Byte)     -- $B7 (unofficial) LAX zp,Y
  | ldaAbsy (a : Word)    -- $B9 LDA abs,Y
  | ldyAbsx (a : Word)    -- $BC LDY abs,X
  | ldaAbsx (a : Word)    -- $BD LDA abs,X
  | ldxAbsy (a : Word)    -- $BE LDX abs,Y
  | laxAbsy (a : Word)    -- $BF (unofficial) LAX abs,Y
  | cpyImm (a : Byte)     -- $C0 CPY #
  | cmpIzx (a : Byte)     -- $C1 CMP (zp,X)
  | dcpIzx (a : Byte)     -- $C3 (unofficial) DCP (zp,X)
  | cpyZp (a : Byte)      -- $C4 CPY zp
  | cmpZp (a : Byte)      -- $C5 CMP zp
  | decZp (a : Byte)      -- $C6 DEC zp
  | dcpZp (a : Byte)      -- $C7 (unofficial) DCP zp
  | cmpImm (a : Byte)     -- $C9 CMP #
  | cpyAbs (a : Word)     -- $CC CPY abs
  | cmpAbs (a : Word)     -- $CD CMP abs
  | decAbs (a : Word)     -- $CE DEC abs
  | dcpAbs (a : Word)     -- $CF (unofficial) DCP abs
  | bne (a : Byte)        -- $D0 BNE rel
  | cmpIzy (a : Byte)     -- $D1 CMP (zp),Y
  | dcpIzy (a : Byte)     -- $D3 (unofficial) DCP (zp),Y
  | nopZpxD4 (a : Byte)   -- $D4 (unofficial) NOP zp,X
  | cmpZpx (a : Byte)     -- $D5 CMP zp,X
  | decZpx (a : Byte)     -- $D6 DEC zp,X
  | dcpZpx (a : Byte)     -- $D7 (unofficial) DCP zp,X
  | cmpAbsy (a : Word)    -- $D9 CMP abs,Y
  | dcpAbsy (a : Word)    -- $DB (unofficial) DCP abs,Y
  | nopAbsxDC (a : Word)  -- $DC (unofficial) NOP abs,X
  | cmpAbsx (a : Word)    -- $DD CMP abs,X
  | decAbsx (a : Word)    -- $DE DEC abs,X
  | dcpAbsx (a : Word)    -- $DF (unofficial) DCP abs,X
  | cpxImm (a : Byte)     -- $E0 CPX #
  | sbcIzx (a : Byte)     -- $E1 SBC (zp,X)
  | isbIzx (a : Byte)     -- $E3 (unofficial) ISB (zp,X)
  | cpxZp (a : Byte)      -- $E4 CPX zp
  | sbcZp (a : Byte)      -- $E5 SBC zp
  | incZp (a : Byte)      -- $E6 INC zp
  | isbZp (a : Byte)      -- $E7 (unofficial) ISB zp
  | sbcImm (a : Byte)     -- $E9 SBC #
  | sbcImmEB (a : Byte)   -- $EB (unofficial) SBC #
  | cpxAbs (a : Word)     -- $EC CPX abs
  | sbcAbs (a : Word)     -- $ED SBC abs
  | incAbs (a : Word)     -- $EE INC abs
  | isbAbs (a : Word)     -- $EF (unofficial) ISB abs
  | beq (a : Byte)        -- $F0 BEQ rel
  | sbcIzy (a : Byte)     -- $F1 SBC (zp),Y
  | isbIzy (a : Byte)     -- $F3 (unofficial) ISB (zp),Y
  | nopZpxF4 (a : Byte)   -- $F4 (unofficial) NOP zp,X
  | sbcZpx (a : Byte)     -- $F5 SBC zp,X
  | incZpx (a : Byte)     -- $F6 INC zp,X
  | isbZpx (a : Byte)     -- $F7 (unofficial) ISB zp,X
  | sbcAbsy (a : Word)    -- $F9 SBC abs,Y
  | isbAbsy (a : Word)    -- $FB (unofficial) ISB abs,Y
  | nopAbsxFC (a : Word)  -- $FC (unofficial) NOP abs,X
  | sbcAbsx (a : Word)    -- $FD SBC abs,X
  | incAbsx (a : Word)    -- $FE INC abs,X
  | isbAbsx (a : Word)    -- $FF (unofficial) ISB abs,X
  | brk                   -- $00 BRK
  | php                   -- $08 PHP
  | aslAcc                -- $0A ASL A
  | clc                   -- $18 CLC
  | nopImp1A              -- $1A (unofficial) NOP
  | plp                   -- $28 PLP
  | rolAcc                -- $2A ROL A
  | sec                   -- $38 SEC
  | nopImp3A              -- $3A (unofficial) NOP
  | rti                   -- $40 RTI
  | pha                   -- $48 PHA
  | lsrAcc                -- $4A LSR A
  | cli                   -- $58 CLI
  | nopImp5A              -- $5A (unofficial) NOP
  | rts                   -- $60 RTS
  | pla                   -- $68 PLA
  | rorAcc                -- $6A ROR A
  | sei                   -- $78 SEI
  | nopImp7A              -- $7A (unofficial) NOP
  | dey                   -- $88 DEY
  | txa                   -- $8A TXA
  | tya                   -- $98 TYA
  | txs                   -- $9A TXS
  | tay                   -- $A8 TAY
  | tax                   -- $AA TAX
  | clv                   -- $B8 CLV
  | tsx                   -- $BA TSX
  | iny                   -- $C8 INY
  | dex                   -- $CA DEX
  | cld                   -- $D8 CLD
  | nopImpDA              -- $DA (unofficial) NOP
  | inx                   -- $E8 INX
  | nopImp                -- $EA NOP
  | sed                   -- $F8 SED
  | nopImpFA              -- $FA (unofficial) NOP
  | unknown02             -- $02 UNKNOWN
  | unknown0B             -- $0B UNKNOWN
  | unknown12             -- $12 UNKNOWN
  | unknown22             -- $22 UNKNOWN
  | unknown2B             -- $2B UNKNOWN
  | unknown32             -- $32 UNKNOWN
  | unknown42             -- $42 UNKNOWN
  | unknown4B             -- $4B UNKNOWN
  | unknown52             -- $52 UNKNOWN
  | unknown62             -- $62 UNKNOWN
  | unknown6B             -- $6B UNKNOWN
  | unknown72             -- $72 UNKNOWN
  | unknown82             -- $82 UNKNOWN
  | unknown89             -- $89 UNKNOWN
  | unknown8B             -- $8B UNKNOWN
  | unknown92             -- $92 UNKNOWN
  | unknown93             -- $93 UNKNOWN
  | unknown9B             -- $9B UNKNOWN
  | unknown9C             -- $9C UNKNOWN
  | unknown9E             -- $9E UNKNOWN
  | unknown9F             -- $9F UNKNOWN
  | unknownAB             -- $AB UNKNOWN
  | unknownB2             -- $B2 UNKNOWN
  | unknownBB             -- $BB UNKNOWN
  | unknownC2             -- $C2 UNKNOWN
  | unknownCB             -- $CB UNKNOWN
  | unknownD2             -- $D2 UNKNOWN
  | unknownE2             -- $E2 UNKNOWN
  | unknownF2             -- $F2 UNKNOWN
  deriving DecidableEq, Repr

/-- The mnemonic of each row. -/
def Instr.mnemonic : Instr → Mnemonic
  | .brk => .brk
  | .oraIzx _ | .oraZp _ | .oraImm _ | .oraAbs _ | .oraIzy _ | .oraZpx _ | .oraAbsy _ | .oraAbsx _ => .ora
  | .unknown02 | .unknown0B | .unknown12 | .unknown22 | .unknown2B | .unknown32 | .unknown42
  | .unknown4B | .unknown52 | .unknown62 | .unknown6B | .unknown72 | .unknown82 | .unknown89
  | .unknown8B | .unknown92 | .unknown93 | .unknown9B | .unknown9C | .unknown9E | .unknown9F
  | .unknownAB | .unknownB2 | .unknownBB | .unknownC2 | .unknownCB | .unknownD2 | .unknownE2
  | .unknownF2 => .unknown
  | .sloIzx _ | .sloZp _ | .sloAbs _ | .sloIzy _ | .sloZpx _ | .sloAbsy _ | .sloAbsx _ => .slo
  | .nopZp04 _ | .nopAbs0C _ | .nopZpx14 _ | .nopImp1A | .nopAbsx1C _ | .nopZpx34 _ | .nopImp3A
  | .nopAbsx3C _ | .nopZp44 _ | .nopZpx54 _ | .nopImp5A | .nopAbsx5C _ | .nopZp64 _ | .nopZpx74 _
  | .nopImp7A | .nopAbsx7C _ | .nopImm80 _ | .nopZpxD4 _ | .nopImpDA | .nopAbsxDC _ | .nopImp
  | .nopZpxF4 _ | .nopImpFA | .nopAbsxFC _ => .nop
  | .aslZp _ | .aslAcc | .aslAbs _ | .aslZpx _ | .aslAbsx _ => .asl
  | .php => .php
  | .bpl _ => .bpl
  | .clc => .clc
  | .jsr _ => .jsr
  | .andIzx _ | .andZp _ | .andImm _ | .andAbs _ | .andIzy _ | .andZpx _ | .andAbsy _ | .andAbsx _ => .and_
  | .rlaIzx _ | .rlaZp _ | .rlaAbs _ | .rlaIzy _ | .rlaZpx _ | .rlaAbsy _ | .rlaAbsx _ => .rla
  | .bitZp _ | .bitAbs _ => .bit
  | .rolZp _ | .rolAcc | .rolAbs _ | .rolZpx _ | .rolAbsx _ => .rol
  | .plp => .plp
  | .bmi _ => .bmi
  | .sec => .sec
  | .rti => .rti
  | .eorIzx _ | .eorZp _ | .eorImm _ | .eorAbs _ | .eorIzy _ | .eorZpx _ | .eorAbsy _ | .eorAbsx _ => .eor
  | .sreIzx _ | .sreZp _ | .sreAbs _ | .sreIzy _ | .sreZpx _ | .sreAbsy _ | .sreAbsx _ => .sre
  | .lsrZp _ | .lsrAcc | .lsrAbs _ | .lsrZpx _ | .lsrAbsx _ => .lsr
  | .pha => .pha
  | .jmpAbs _ | .jmpInd _ => .jmp
  | .bvc _ => .bvc
  | .cli => .cli
  | .rts => .rts
  | .adcIzx _ | .adcZp _ | .adcImm _ | .adcAbs _ | .adcIzy _ | .adcZpx _ | .adcAbsy _ | .adcAbsx _ => .adc
  | .rraIzx _ | .rraZp _ | .rraAbs _ | .rraIzy _ | .rraZpx _ | .rraAbsy _ | .rraAbsx _ => .rra
  | .rorZp _ | .rorAcc | .rorAbs _ | .rorZpx _ | .rorAbsx _ => .ror
  | .pla => .pla
  | .bvs _ => .bvs
  | .sei => .sei
  | .staIzx _ | .staZp _ | .staAbs _ | .staIzy _ | .staZpx _ | .staAbsy _ | .staAbsx _ => .sta
  | .saxIzx _ | .saxZp _ | .saxAbs _ | .saxZpy _ => .sax
  | .styZp _ | .styAbs _ | .styZpx _ => .sty
  | .stxZp _ | .stxAbs _ | .stxZpy _ => .stx
  | .dey => .dey
  | .txa => .txa
  | .bcc _ => .bcc
  | .tya => .tya
  | .txs => .txs
  | .ldyImm _ | .ldyZp _ | .ldyAbs _ | .ldyZpx _ | .ldyAbsx _ => .ldy
  | .ldaIzx _ | .ldaZp _ | .ldaImm _ | .ldaAbs _ | .ldaIzy _ | .ldaZpx _ | .ldaAbsy _ | .ldaAbsx _ => .lda
  | .ldxImm _ | .ldxZp _ | .ldxAbs _ | .ldxZpy _ | .ldxAbsy _ => .ldx
  | .laxIzx _ | .laxZp _ | .laxAbs _ | .laxIzy _ | .laxZpy _ | .laxAbsy _ => .lax
  | .tay => .tay
  | .tax => .tax
  | .bcs _ => .bcs
  | .clv => .clv
  | .tsx => .tsx
  | .cpyImm _ | .cpyZp _ | .cpyAbs _ => .cpy
  | .cmpIzx _ | .cmpZp _ | .cmpImm _ | .cmpAbs _ | .cmpIzy _ | .cmpZpx _ | .cmpAbsy _ | .cmpAbsx _ => .cmp
  | .dcpIzx _ | .dcpZp _ | .dcpAbs _ | .dcpIzy _ | .dcpZpx _ | .dcpAbsy _ | .dcpAbsx _ => .dcp
  | .decZp _ | .decAbs _ | .decZpx _ | .decAbsx _ => .dec
  | .iny => .iny
  | .dex => .dex
  | .bne _ => .bne
  | .cld => .cld
  | .cpxImm _ | .cpxZp _ | .cpxAbs _ => .cpx
  | .sbcIzx _ | .sbcZp _ | .sbcImm _ | .sbcImmEB _ | .sbcAbs _ | .sbcIzy _ | .sbcZpx _ | .sbcAbsy _
  | .sbcAbsx _ => .sbc
  | .isbIzx _ | .isbZp _ | .isbAbs _ | .isbIzy _ | .isbZpx _ | .isbAbsy _ | .isbAbsx _ => .isb
  | .incZp _ | .incAbs _ | .incZpx _ | .incAbsx _ => .inc
  | .inx => .inx
  | .beq _ => .beq
  | .sed => .sed

end Sys2Proof
end

