-- ==== Sys2Proof/WellFormed.lean ====
section
/-! DEFINITION. Which terms of `Instr` are instructions (spec/30_encoding.md R311, R330, R331). -/

namespace Sys2Proof

/-- An instruction is well-formed when its row has a descriptor: every row but the 29 unknown opcodes. An operand
is well-formed by its type, since each operand byte or word takes every value of its width (R302, R331). -/
def Instr.wellFormed (i : Instr) : Bool := i.mnemonic != .unknown

end Sys2Proof
end

