-- ==== Sys2Proof/Decode.lean ====
section
/-! DEFINITION. The decoder and the encoder, each written from the spec's own table: `opcodeMap` is the 16 by 16 map of
spec/30_encoding.md R310, `Instr.row` the row-by-row list of R311. -/

namespace Sys2Proof

/-- `{hi, lo}`: the 16-bit value whose low byte is `lo` (spec/20_memory.md R210, little-endian). -/
def wordOf (lo hi : Byte) : Word := hi ++ lo

/-- Bits 7-0 of a word. -/
def loByte (w : Word) : Byte := w.extractLsb' 0 8

/-- Bits 15-8 of a word. -/
def hiByte (w : Word) : Byte := w.extractLsb' 8 8

/-- What the descriptor table says of one opcode byte (R301, R303): a null entry, or the format's number of bytes
and the instruction that the operand completes. -/
inductive RowForm where
  | null (i : Instr)
  | one (i : Instr)
  | two (f : Byte → Instr)
  | three (f : Word → Instr)

/-- Row 0x of the opcode map (R310). -/
def opcodeRow0 : List RowForm := [
  .one .brk, .two .oraIzx, .null .unknown02, .two .sloIzx,
  .two .nopZp04, .two .oraZp, .two .aslZp, .two .sloZp,
  .one .php, .two .oraImm, .one .aslAcc, .null .unknown0B,
  .three .nopAbs0C, .three .oraAbs, .three .aslAbs, .three .sloAbs]

/-- Row 1x of the opcode map (R310). -/
def opcodeRow1 : List RowForm := [
  .two .bpl, .two .oraIzy, .null .unknown12, .two .sloIzy,
  .two .nopZpx14, .two .oraZpx, .two .aslZpx, .two .sloZpx,
  .one .clc, .three .oraAbsy, .one .nopImp1A, .three .sloAbsy,
  .three .nopAbsx1C, .three .oraAbsx, .three .aslAbsx, .three .sloAbsx]

/-- Row 2x of the opcode map (R310). -/
def opcodeRow2 : List RowForm := [
  .three .jsr, .two .andIzx, .null .unknown22, .two .rlaIzx,
  .two .bitZp, .two .andZp, .two .rolZp, .two .rlaZp,
  .one .plp, .two .andImm, .one .rolAcc, .null .unknown2B,
  .three .bitAbs, .three .andAbs, .three .rolAbs, .three .rlaAbs]

/-- Row 3x of the opcode map (R310). -/
def opcodeRow3 : List RowForm := [
  .two .bmi, .two .andIzy, .null .unknown32, .two .rlaIzy,
  .two .nopZpx34, .two .andZpx, .two .rolZpx, .two .rlaZpx,
  .one .sec, .three .andAbsy, .one .nopImp3A, .three .rlaAbsy,
  .three .nopAbsx3C, .three .andAbsx, .three .rolAbsx, .three .rlaAbsx]

/-- Row 4x of the opcode map (R310). -/
def opcodeRow4 : List RowForm := [
  .one .rti, .two .eorIzx, .null .unknown42, .two .sreIzx,
  .two .nopZp44, .two .eorZp, .two .lsrZp, .two .sreZp,
  .one .pha, .two .eorImm, .one .lsrAcc, .null .unknown4B,
  .three .jmpAbs, .three .eorAbs, .three .lsrAbs, .three .sreAbs]

/-- Row 5x of the opcode map (R310). -/
def opcodeRow5 : List RowForm := [
  .two .bvc, .two .eorIzy, .null .unknown52, .two .sreIzy,
  .two .nopZpx54, .two .eorZpx, .two .lsrZpx, .two .sreZpx,
  .one .cli, .three .eorAbsy, .one .nopImp5A, .three .sreAbsy,
  .three .nopAbsx5C, .three .eorAbsx, .three .lsrAbsx, .three .sreAbsx]

/-- Row 6x of the opcode map (R310). -/
def opcodeRow6 : List RowForm := [
  .one .rts, .two .adcIzx, .null .unknown62, .two .rraIzx,
  .two .nopZp64, .two .adcZp, .two .rorZp, .two .rraZp,
  .one .pla, .two .adcImm, .one .rorAcc, .null .unknown6B,
  .three .jmpInd, .three .adcAbs, .three .rorAbs, .three .rraAbs]

/-- Row 7x of the opcode map (R310). -/
def opcodeRow7 : List RowForm := [
  .two .bvs, .two .adcIzy, .null .unknown72, .two .rraIzy,
  .two .nopZpx74, .two .adcZpx, .two .rorZpx, .two .rraZpx,
  .one .sei, .three .adcAbsy, .one .nopImp7A, .three .rraAbsy,
  .three .nopAbsx7C, .three .adcAbsx, .three .rorAbsx, .three .rraAbsx]

/-- Row 8x of the opcode map (R310). -/
def opcodeRow8 : List RowForm := [
  .two .nopImm80, .two .staIzx, .null .unknown82, .two .saxIzx,
  .two .styZp, .two .staZp, .two .stxZp, .two .saxZp,
  .one .dey, .null .unknown89, .one .txa, .null .unknown8B,
  .three .styAbs, .three .staAbs, .three .stxAbs, .three .saxAbs]

/-- Row 9x of the opcode map (R310). -/
def opcodeRow9 : List RowForm := [
  .two .bcc, .two .staIzy, .null .unknown92, .null .unknown93,
  .two .styZpx, .two .staZpx, .two .stxZpy, .two .saxZpy,
  .one .tya, .three .staAbsy, .one .txs, .null .unknown9B,
  .null .unknown9C, .three .staAbsx, .null .unknown9E, .null .unknown9F]

/-- Row Ax of the opcode map (R310). -/
def opcodeRowA : List RowForm := [
  .two .ldyImm, .two .ldaIzx, .two .ldxImm, .two .laxIzx,
  .two .ldyZp, .two .ldaZp, .two .ldxZp, .two .laxZp,
  .one .tay, .two .ldaImm, .one .tax, .null .unknownAB,
  .three .ldyAbs, .three .ldaAbs, .three .ldxAbs, .three .laxAbs]

/-- Row Bx of the opcode map (R310). -/
def opcodeRowB : List RowForm := [
  .two .bcs, .two .ldaIzy, .null .unknownB2, .two .laxIzy,
  .two .ldyZpx, .two .ldaZpx, .two .ldxZpy, .two .laxZpy,
  .one .clv, .three .ldaAbsy, .one .tsx, .null .unknownBB,
  .three .ldyAbsx, .three .ldaAbsx, .three .ldxAbsy, .three .laxAbsy]

/-- Row Cx of the opcode map (R310). -/
def opcodeRowC : List RowForm := [
  .two .cpyImm, .two .cmpIzx, .null .unknownC2, .two .dcpIzx,
  .two .cpyZp, .two .cmpZp, .two .decZp, .two .dcpZp,
  .one .iny, .two .cmpImm, .one .dex, .null .unknownCB,
  .three .cpyAbs, .three .cmpAbs, .three .decAbs, .three .dcpAbs]

/-- Row Dx of the opcode map (R310). -/
def opcodeRowD : List RowForm := [
  .two .bne, .two .cmpIzy, .null .unknownD2, .two .dcpIzy,
  .two .nopZpxD4, .two .cmpZpx, .two .decZpx, .two .dcpZpx,
  .one .cld, .three .cmpAbsy, .one .nopImpDA, .three .dcpAbsy,
  .three .nopAbsxDC, .three .cmpAbsx, .three .decAbsx, .three .dcpAbsx]

/-- Row Ex of the opcode map (R310). -/
def opcodeRowE : List RowForm := [
  .two .cpxImm, .two .sbcIzx, .null .unknownE2, .two .isbIzx,
  .two .cpxZp, .two .sbcZp, .two .incZp, .two .isbZp,
  .one .inx, .two .sbcImm, .one .nopImp, .two .sbcImmEB,
  .three .cpxAbs, .three .sbcAbs, .three .incAbs, .three .isbAbs]

/-- Row Fx of the opcode map (R310). -/
def opcodeRowF : List RowForm := [
  .two .beq, .two .sbcIzy, .null .unknownF2, .two .isbIzy,
  .two .nopZpxF4, .two .sbcZpx, .two .incZpx, .two .isbZpx,
  .one .sed, .three .sbcAbsy, .one .nopImpFA, .three .isbAbsy,
  .three .nopAbsxFC, .three .sbcAbsx, .three .incAbsx, .three .isbAbsx]

/-- The descriptor table of R310, by the high and then the low half of the opcode byte. -/
def opcodeMap : List (List RowForm) :=
  [opcodeRow0, opcodeRow1, opcodeRow2, opcodeRow3, opcodeRow4, opcodeRow5, opcodeRow6, opcodeRow7]
  ++ [opcodeRow8, opcodeRow9, opcodeRowA, opcodeRowB, opcodeRowC, opcodeRowD, opcodeRowE, opcodeRowF]

/-- `descriptor[opcode]` (R303). The map has an entry for every byte, so the default is never taken. -/
def rowOf (op : Byte) : RowForm :=
  (opcodeMap.getD (op.toNat / 16) []).getD (op.toNat % 16) (.null .unknown02)

/-- Why bytes do not decode. Both are about a list that is too short: every opcode byte has a row (R300, R331). -/
inductive DecodeError where
  /-- There is no opcode byte. -/
  | noOpcode
  /-- The list ends before the operand of this opcode. -/
  | truncated (op : Byte)
  deriving DecidableEq, Repr

/-- Decoding is total (R303): byte 0 selects the row, the row fixes the length, and what follows is the rest. -/
def decode : List Byte → Except DecodeError (Instr × List Byte)
  | [] => .error .noOpcode
  | op :: rest =>
    match rowOf op, rest with
    | .null i, r => .ok (i, r)
    | .one i, r => .ok (i, r)
    | .two f, b :: r => .ok (f b, r)
    | .three f, lo :: hi :: r => .ok (f (wordOf lo hi), r)
    | .two _, [] => .error (.truncated op)
    | .three _, [] => .error (.truncated op)
    | .three _, [_] => .error (.truncated op)

/-- One line of R311: the opcode byte, the operand form, the base cycle count and the "+1 on page cross" flag. -/
structure Row where
  opcode : Byte
  operand : Operand
  base : Nat
  pageCross : Bool
  deriving DecidableEq, Repr

/-- The list of R311, row by row. An unknown opcode has no descriptor (R330): its row holds its byte, and no cycle
count is ever taken from it. -/
def Instr.row : Instr → Row
  | .brk => ⟨0x00, .imp, 7, false⟩
  | .oraIzx a => ⟨0x01, (.mem (.izx a)), 6, false⟩
  | .unknown02 => ⟨0x02, .imp, 0, false⟩
  | .sloIzx a => ⟨0x03, (.mem (.izx a)), 8, false⟩
  | .nopZp04 a => ⟨0x04, (.mem (.zp a)), 3, false⟩
  | .oraZp a => ⟨0x05, (.mem (.zp a)), 3, false⟩
  | .aslZp a => ⟨0x06, (.mem (.zp a)), 5, false⟩
  | .sloZp a => ⟨0x07, (.mem (.zp a)), 5, false⟩
  | .php => ⟨0x08, .imp, 3, false⟩
  | .oraImm a => ⟨0x09, (.imm a), 2, false⟩
  | .aslAcc => ⟨0x0A, .acc, 2, false⟩
  | .unknown0B => ⟨0x0B, .imp, 0, false⟩
  | .nopAbs0C a => ⟨0x0C, (.mem (.abs a)), 4, false⟩
  | .oraAbs a => ⟨0x0D, (.mem (.abs a)), 4, false⟩
  | .aslAbs a => ⟨0x0E, (.mem (.abs a)), 6, false⟩
  | .sloAbs a => ⟨0x0F, (.mem (.abs a)), 6, false⟩
  | .bpl a => ⟨0x10, (.rel a), 2, false⟩
  | .oraIzy a => ⟨0x11, (.mem (.izy a)), 5, true⟩
  | .unknown12 => ⟨0x12, .imp, 0, false⟩
  | .sloIzy a => ⟨0x13, (.mem (.izy a)), 8, false⟩
  | .nopZpx14 a => ⟨0x14, (.mem (.zpX a)), 4, false⟩
  | .oraZpx a => ⟨0x15, (.mem (.zpX a)), 4, false⟩
  | .aslZpx a => ⟨0x16, (.mem (.zpX a)), 6, false⟩
  | .sloZpx a => ⟨0x17, (.mem (.zpX a)), 6, false⟩
  | .clc => ⟨0x18, .imp, 2, false⟩
  | .oraAbsy a => ⟨0x19, (.mem (.absY a)), 4, true⟩
  | .nopImp1A => ⟨0x1A, .imp, 2, false⟩
  | .sloAbsy a => ⟨0x1B, (.mem (.absY a)), 7, false⟩
  | .nopAbsx1C a => ⟨0x1C, (.mem (.absX a)), 4, true⟩
  | .oraAbsx a => ⟨0x1D, (.mem (.absX a)), 4, true⟩
  | .aslAbsx a => ⟨0x1E, (.mem (.absX a)), 7, false⟩
  | .sloAbsx a => ⟨0x1F, (.mem (.absX a)), 7, false⟩
  | .jsr a => ⟨0x20, (.mem (.abs a)), 6, false⟩
  | .andIzx a => ⟨0x21, (.mem (.izx a)), 6, false⟩
  | .unknown22 => ⟨0x22, .imp, 0, false⟩
  | .rlaIzx a => ⟨0x23, (.mem (.izx a)), 8, false⟩
  | .bitZp a => ⟨0x24, (.mem (.zp a)), 3, false⟩
  | .andZp a => ⟨0x25, (.mem (.zp a)), 3, false⟩
  | .rolZp a => ⟨0x26, (.mem (.zp a)), 5, false⟩
  | .rlaZp a => ⟨0x27, (.mem (.zp a)), 5, false⟩
  | .plp => ⟨0x28, .imp, 4, false⟩
  | .andImm a => ⟨0x29, (.imm a), 2, false⟩
  | .rolAcc => ⟨0x2A, .acc, 2, false⟩
  | .unknown2B => ⟨0x2B, .imp, 0, false⟩
  | .bitAbs a => ⟨0x2C, (.mem (.abs a)), 4, false⟩
  | .andAbs a => ⟨0x2D, (.mem (.abs a)), 4, false⟩
  | .rolAbs a => ⟨0x2E, (.mem (.abs a)), 6, false⟩
  | .rlaAbs a => ⟨0x2F, (.mem (.abs a)), 6, false⟩
  | .bmi a => ⟨0x30, (.rel a), 2, false⟩
  | .andIzy a => ⟨0x31, (.mem (.izy a)), 5, true⟩
  | .unknown32 => ⟨0x32, .imp, 0, false⟩
  | .rlaIzy a => ⟨0x33, (.mem (.izy a)), 8, false⟩
  | .nopZpx34 a => ⟨0x34, (.mem (.zpX a)), 4, false⟩
  | .andZpx a => ⟨0x35, (.mem (.zpX a)), 4, false⟩
  | .rolZpx a => ⟨0x36, (.mem (.zpX a)), 6, false⟩
  | .rlaZpx a => ⟨0x37, (.mem (.zpX a)), 6, false⟩
  | .sec => ⟨0x38, .imp, 2, false⟩
  | .andAbsy a => ⟨0x39, (.mem (.absY a)), 4, true⟩
  | .nopImp3A => ⟨0x3A, .imp, 2, false⟩
  | .rlaAbsy a => ⟨0x3B, (.mem (.absY a)), 7, false⟩
  | .nopAbsx3C a => ⟨0x3C, (.mem (.absX a)), 4, true⟩
  | .andAbsx a => ⟨0x3D, (.mem (.absX a)), 4, true⟩
  | .rolAbsx a => ⟨0x3E, (.mem (.absX a)), 7, false⟩
  | .rlaAbsx a => ⟨0x3F, (.mem (.absX a)), 7, false⟩
  | .rti => ⟨0x40, .imp, 6, false⟩
  | .eorIzx a => ⟨0x41, (.mem (.izx a)), 6, false⟩
  | .unknown42 => ⟨0x42, .imp, 0, false⟩
  | .sreIzx a => ⟨0x43, (.mem (.izx a)), 8, false⟩
  | .nopZp44 a => ⟨0x44, (.mem (.zp a)), 3, false⟩
  | .eorZp a => ⟨0x45, (.mem (.zp a)), 3, false⟩
  | .lsrZp a => ⟨0x46, (.mem (.zp a)), 5, false⟩
  | .sreZp a => ⟨0x47, (.mem (.zp a)), 5, false⟩
  | .pha => ⟨0x48, .imp, 3, false⟩
  | .eorImm a => ⟨0x49, (.imm a), 2, false⟩
  | .lsrAcc => ⟨0x4A, .acc, 2, false⟩
  | .unknown4B => ⟨0x4B, .imp, 0, false⟩
  | .jmpAbs a => ⟨0x4C, (.mem (.abs a)), 3, false⟩
  | .eorAbs a => ⟨0x4D, (.mem (.abs a)), 4, false⟩
  | .lsrAbs a => ⟨0x4E, (.mem (.abs a)), 6, false⟩
  | .sreAbs a => ⟨0x4F, (.mem (.abs a)), 6, false⟩
  | .bvc a => ⟨0x50, (.rel a), 2, false⟩
  | .eorIzy a => ⟨0x51, (.mem (.izy a)), 5, true⟩
  | .unknown52 => ⟨0x52, .imp, 0, false⟩
  | .sreIzy a => ⟨0x53, (.mem (.izy a)), 8, false⟩
  | .nopZpx54 a => ⟨0x54, (.mem (.zpX a)), 4, false⟩
  | .eorZpx a => ⟨0x55, (.mem (.zpX a)), 4, false⟩
  | .lsrZpx a => ⟨0x56, (.mem (.zpX a)), 6, false⟩
  | .sreZpx a => ⟨0x57, (.mem (.zpX a)), 6, false⟩
  | .cli => ⟨0x58, .imp, 2, false⟩
  | .eorAbsy a => ⟨0x59, (.mem (.absY a)), 4, true⟩
  | .nopImp5A => ⟨0x5A, .imp, 2, false⟩
  | .sreAbsy a => ⟨0x5B, (.mem (.absY a)), 7, false⟩
  | .nopAbsx5C a => ⟨0x5C, (.mem (.absX a)), 4, true⟩
  | .eorAbsx a => ⟨0x5D, (.mem (.absX a)), 4, true⟩
  | .lsrAbsx a => ⟨0x5E, (.mem (.absX a)), 7, false⟩
  | .sreAbsx a => ⟨0x5F, (.mem (.absX a)), 7, false⟩
  | .rts => ⟨0x60, .imp, 6, false⟩
  | .adcIzx a => ⟨0x61, (.mem (.izx a)), 6, false⟩
  | .unknown62 => ⟨0x62, .imp, 0, false⟩
  | .rraIzx a => ⟨0x63, (.mem (.izx a)), 8, false⟩
  | .nopZp64 a => ⟨0x64, (.mem (.zp a)), 3, false⟩
  | .adcZp a => ⟨0x65, (.mem (.zp a)), 3, false⟩
  | .rorZp a => ⟨0x66, (.mem (.zp a)), 5, false⟩
  | .rraZp a => ⟨0x67, (.mem (.zp a)), 5, false⟩
  | .pla => ⟨0x68, .imp, 4, false⟩
  | .adcImm a => ⟨0x69, (.imm a), 2, false⟩
  | .rorAcc => ⟨0x6A, .acc, 2, false⟩
  | .unknown6B => ⟨0x6B, .imp, 0, false⟩
  | .jmpInd a => ⟨0x6C, (.ind a), 5, false⟩
  | .adcAbs a => ⟨0x6D, (.mem (.abs a)), 4, false⟩
  | .rorAbs a => ⟨0x6E, (.mem (.abs a)), 6, false⟩
  | .rraAbs a => ⟨0x6F, (.mem (.abs a)), 6, false⟩
  | .bvs a => ⟨0x70, (.rel a), 2, false⟩
  | .adcIzy a => ⟨0x71, (.mem (.izy a)), 5, true⟩
  | .unknown72 => ⟨0x72, .imp, 0, false⟩
  | .rraIzy a => ⟨0x73, (.mem (.izy a)), 8, false⟩
  | .nopZpx74 a => ⟨0x74, (.mem (.zpX a)), 4, false⟩
  | .adcZpx a => ⟨0x75, (.mem (.zpX a)), 4, false⟩
  | .rorZpx a => ⟨0x76, (.mem (.zpX a)), 6, false⟩
  | .rraZpx a => ⟨0x77, (.mem (.zpX a)), 6, false⟩
  | .sei => ⟨0x78, .imp, 2, false⟩
  | .adcAbsy a => ⟨0x79, (.mem (.absY a)), 4, true⟩
  | .nopImp7A => ⟨0x7A, .imp, 2, false⟩
  | .rraAbsy a => ⟨0x7B, (.mem (.absY a)), 7, false⟩
  | .nopAbsx7C a => ⟨0x7C, (.mem (.absX a)), 4, true⟩
  | .adcAbsx a => ⟨0x7D, (.mem (.absX a)), 4, true⟩
  | .rorAbsx a => ⟨0x7E, (.mem (.absX a)), 7, false⟩
  | .rraAbsx a => ⟨0x7F, (.mem (.absX a)), 7, false⟩
  | .nopImm80 a => ⟨0x80, (.imm a), 2, false⟩
  | .staIzx a => ⟨0x81, (.mem (.izx a)), 6, false⟩
  | .unknown82 => ⟨0x82, .imp, 0, false⟩
  | .saxIzx a => ⟨0x83, (.mem (.izx a)), 6, false⟩
  | .styZp a => ⟨0x84, (.mem (.zp a)), 3, false⟩
  | .staZp a => ⟨0x85, (.mem (.zp a)), 3, false⟩
  | .stxZp a => ⟨0x86, (.mem (.zp a)), 3, false⟩
  | .saxZp a => ⟨0x87, (.mem (.zp a)), 3, false⟩
  | .dey => ⟨0x88, .imp, 2, false⟩
  | .unknown89 => ⟨0x89, .imp, 0, false⟩
  | .txa => ⟨0x8A, .imp, 2, false⟩
  | .unknown8B => ⟨0x8B, .imp, 0, false⟩
  | .styAbs a => ⟨0x8C, (.mem (.abs a)), 4, false⟩
  | .staAbs a => ⟨0x8D, (.mem (.abs a)), 4, false⟩
  | .stxAbs a => ⟨0x8E, (.mem (.abs a)), 4, false⟩
  | .saxAbs a => ⟨0x8F, (.mem (.abs a)), 4, false⟩
  | .bcc a => ⟨0x90, (.rel a), 2, false⟩
  | .staIzy a => ⟨0x91, (.mem (.izy a)), 6, false⟩
  | .unknown92 => ⟨0x92, .imp, 0, false⟩
  | .unknown93 => ⟨0x93, .imp, 0, false⟩
  | .styZpx a => ⟨0x94, (.mem (.zpX a)), 4, false⟩
  | .staZpx a => ⟨0x95, (.mem (.zpX a)), 4, false⟩
  | .stxZpy a => ⟨0x96, (.mem (.zpY a)), 4, false⟩
  | .saxZpy a => ⟨0x97, (.mem (.zpY a)), 4, false⟩
  | .tya => ⟨0x98, .imp, 2, false⟩
  | .staAbsy a => ⟨0x99, (.mem (.absY a)), 5, false⟩
  | .txs => ⟨0x9A, .imp, 2, false⟩
  | .unknown9B => ⟨0x9B, .imp, 0, false⟩
  | .unknown9C => ⟨0x9C, .imp, 0, false⟩
  | .staAbsx a => ⟨0x9D, (.mem (.absX a)), 5, false⟩
  | .unknown9E => ⟨0x9E, .imp, 0, false⟩
  | .unknown9F => ⟨0x9F, .imp, 0, false⟩
  | .ldyImm a => ⟨0xA0, (.imm a), 2, false⟩
  | .ldaIzx a => ⟨0xA1, (.mem (.izx a)), 6, false⟩
  | .ldxImm a => ⟨0xA2, (.imm a), 2, false⟩
  | .laxIzx a => ⟨0xA3, (.mem (.izx a)), 6, false⟩
  | .ldyZp a => ⟨0xA4, (.mem (.zp a)), 3, false⟩
  | .ldaZp a => ⟨0xA5, (.mem (.zp a)), 3, false⟩
  | .ldxZp a => ⟨0xA6, (.mem (.zp a)), 3, false⟩
  | .laxZp a => ⟨0xA7, (.mem (.zp a)), 3, false⟩
  | .tay => ⟨0xA8, .imp, 2, false⟩
  | .ldaImm a => ⟨0xA9, (.imm a), 2, false⟩
  | .tax => ⟨0xAA, .imp, 2, false⟩
  | .unknownAB => ⟨0xAB, .imp, 0, false⟩
  | .ldyAbs a => ⟨0xAC, (.mem (.abs a)), 4, false⟩
  | .ldaAbs a => ⟨0xAD, (.mem (.abs a)), 4, false⟩
  | .ldxAbs a => ⟨0xAE, (.mem (.abs a)), 4, false⟩
  | .laxAbs a => ⟨0xAF, (.mem (.abs a)), 4, false⟩
  | .bcs a => ⟨0xB0, (.rel a), 2, false⟩
  | .ldaIzy a => ⟨0xB1, (.mem (.izy a)), 5, true⟩
  | .unknownB2 => ⟨0xB2, .imp, 0, false⟩
  | .laxIzy a => ⟨0xB3, (.mem (.izy a)), 5, true⟩
  | .ldyZpx a => ⟨0xB4, (.mem (.zpX a)), 4, false⟩
  | .ldaZpx a => ⟨0xB5, (.mem (.zpX a)), 4, false⟩
  | .ldxZpy a => ⟨0xB6, (.mem (.zpY a)), 4, false⟩
  | .laxZpy a => ⟨0xB7, (.mem (.zpY a)), 4, false⟩
  | .clv => ⟨0xB8, .imp, 2, false⟩
  | .ldaAbsy a => ⟨0xB9, (.mem (.absY a)), 4, true⟩
  | .tsx => ⟨0xBA, .imp, 2, false⟩
  | .unknownBB => ⟨0xBB, .imp, 0, false⟩
  | .ldyAbsx a => ⟨0xBC, (.mem (.absX a)), 4, true⟩
  | .ldaAbsx a => ⟨0xBD, (.mem (.absX a)), 4, true⟩
  | .ldxAbsy a => ⟨0xBE, (.mem (.absY a)), 4, true⟩
  | .laxAbsy a => ⟨0xBF, (.mem (.absY a)), 4, true⟩
  | .cpyImm a => ⟨0xC0, (.imm a), 2, false⟩
  | .cmpIzx a => ⟨0xC1, (.mem (.izx a)), 6, false⟩
  | .unknownC2 => ⟨0xC2, .imp, 0, false⟩
  | .dcpIzx a => ⟨0xC3, (.mem (.izx a)), 8, false⟩
  | .cpyZp a => ⟨0xC4, (.mem (.zp a)), 3, false⟩
  | .cmpZp a => ⟨0xC5, (.mem (.zp a)), 3, false⟩
  | .decZp a => ⟨0xC6, (.mem (.zp a)), 5, false⟩
  | .dcpZp a => ⟨0xC7, (.mem (.zp a)), 5, false⟩
  | .iny => ⟨0xC8, .imp, 2, false⟩
  | .cmpImm a => ⟨0xC9, (.imm a), 2, false⟩
  | .dex => ⟨0xCA, .imp, 2, false⟩
  | .unknownCB => ⟨0xCB, .imp, 0, false⟩
  | .cpyAbs a => ⟨0xCC, (.mem (.abs a)), 4, false⟩
  | .cmpAbs a => ⟨0xCD, (.mem (.abs a)), 4, false⟩
  | .decAbs a => ⟨0xCE, (.mem (.abs a)), 6, false⟩
  | .dcpAbs a => ⟨0xCF, (.mem (.abs a)), 6, false⟩
  | .bne a => ⟨0xD0, (.rel a), 2, false⟩
  | .cmpIzy a => ⟨0xD1, (.mem (.izy a)), 5, true⟩
  | .unknownD2 => ⟨0xD2, .imp, 0, false⟩
  | .dcpIzy a => ⟨0xD3, (.mem (.izy a)), 8, false⟩
  | .nopZpxD4 a => ⟨0xD4, (.mem (.zpX a)), 4, false⟩
  | .cmpZpx a => ⟨0xD5, (.mem (.zpX a)), 4, false⟩
  | .decZpx a => ⟨0xD6, (.mem (.zpX a)), 6, false⟩
  | .dcpZpx a => ⟨0xD7, (.mem (.zpX a)), 6, false⟩
  | .cld => ⟨0xD8, .imp, 2, false⟩
  | .cmpAbsy a => ⟨0xD9, (.mem (.absY a)), 4, true⟩
  | .nopImpDA => ⟨0xDA, .imp, 2, false⟩
  | .dcpAbsy a => ⟨0xDB, (.mem (.absY a)), 7, false⟩
  | .nopAbsxDC a => ⟨0xDC, (.mem (.absX a)), 4, true⟩
  | .cmpAbsx a => ⟨0xDD, (.mem (.absX a)), 4, true⟩
  | .decAbsx a => ⟨0xDE, (.mem (.absX a)), 7, false⟩
  | .dcpAbsx a => ⟨0xDF, (.mem (.absX a)), 7, false⟩
  | .cpxImm a => ⟨0xE0, (.imm a), 2, false⟩
  | .sbcIzx a => ⟨0xE1, (.mem (.izx a)), 6, false⟩
  | .unknownE2 => ⟨0xE2, .imp, 0, false⟩
  | .isbIzx a => ⟨0xE3, (.mem (.izx a)), 8, false⟩
  | .cpxZp a => ⟨0xE4, (.mem (.zp a)), 3, false⟩
  | .sbcZp a => ⟨0xE5, (.mem (.zp a)), 3, false⟩
  | .incZp a => ⟨0xE6, (.mem (.zp a)), 5, false⟩
  | .isbZp a => ⟨0xE7, (.mem (.zp a)), 5, false⟩
  | .inx => ⟨0xE8, .imp, 2, false⟩
  | .sbcImm a => ⟨0xE9, (.imm a), 2, false⟩
  | .nopImp => ⟨0xEA, .imp, 2, false⟩
  | .sbcImmEB a => ⟨0xEB, (.imm a), 2, false⟩
  | .cpxAbs a => ⟨0xEC, (.mem (.abs a)), 4, false⟩
  | .sbcAbs a => ⟨0xED, (.mem (.abs a)), 4, false⟩
  | .incAbs a => ⟨0xEE, (.mem (.abs a)), 6, false⟩
  | .isbAbs a => ⟨0xEF, (.mem (.abs a)), 6, false⟩
  | .beq a => ⟨0xF0, (.rel a), 2, false⟩
  | .sbcIzy a => ⟨0xF1, (.mem (.izy a)), 5, true⟩
  | .unknownF2 => ⟨0xF2, .imp, 0, false⟩
  | .isbIzy a => ⟨0xF3, (.mem (.izy a)), 8, false⟩
  | .nopZpxF4 a => ⟨0xF4, (.mem (.zpX a)), 4, false⟩
  | .sbcZpx a => ⟨0xF5, (.mem (.zpX a)), 4, false⟩
  | .incZpx a => ⟨0xF6, (.mem (.zpX a)), 6, false⟩
  | .isbZpx a => ⟨0xF7, (.mem (.zpX a)), 6, false⟩
  | .sed => ⟨0xF8, .imp, 2, false⟩
  | .sbcAbsy a => ⟨0xF9, (.mem (.absY a)), 4, true⟩
  | .nopImpFA => ⟨0xFA, .imp, 2, false⟩
  | .isbAbsy a => ⟨0xFB, (.mem (.absY a)), 7, false⟩
  | .nopAbsxFC a => ⟨0xFC, (.mem (.absX a)), 4, true⟩
  | .sbcAbsx a => ⟨0xFD, (.mem (.absX a)), 4, true⟩
  | .incAbsx a => ⟨0xFE, (.mem (.absX a)), 7, false⟩
  | .isbAbsx a => ⟨0xFF, (.mem (.absX a)), 7, false⟩

/-- The operand byte of a memory mode, or its two bytes, low first (R301). -/
def MemMode.bytes : MemMode → List Byte
  | .zp a | .zpX a | .zpY a | .izx a | .izy a => [a]
  | .abs a | .absX a | .absY a => [loByte a, hiByte a]

/-- The operand bytes of each format (R301). -/
def Operand.bytes : Operand → List Byte
  | .imp | .acc => []
  | .imm b | .rel b => [b]
  | .mem m => m.bytes
  | .ind a => [loByte a, hiByte a]

/-- The bytes of an instruction: its opcode, then its operand. -/
def encode (i : Instr) : List Byte := i.row.opcode :: i.row.operand.bytes

/-- The length in bytes (R301). -/
def Instr.length (i : Instr) : Nat := (encode i).length

/-- The three bytes of a table word, the first word least significant; bits above `nbits` are zero. -/
def tableBytes (nbits w : Nat) : List Byte :=
  let n := w % 2 ^ nbits
  [BitVec.ofNat 8 n, BitVec.ofNat 8 (n / 256), BitVec.ofNat 8 (n / 65536)]

/-- The instruction the decoder reads from a word numbered as spec/opcode_table.json numbers it. -/
def decodeTableWord (nbits w : Nat) : Option Instr :=
  match decode (tableBytes nbits w) with
  | .ok (i, _) => some i
  | .error _ => none

end Sys2Proof
end

