-- ==== Sys2Proof/Config.lean ====
section
/-! DEFINITION. What an implementation fixes (spec/00_scope.md R11) and the values the spec leaves open. -/

namespace Sys2Proof

/-- The named parameters of R11 that have a default, but `POWER_ON_STATE`, which is a draw for each power-on and each
load: `PowerOnState`, the argument of `powerOn` and of `hostLoad` (Machine/HostOps.lean). A machine holds its own (`State.params`), and no step
changes them, so a statement about every state is a statement about every choice of them (log 3). -/
structure Params where
  /-- `RESET_P`, P after reset (D4). -/
  resetP : Byte
  /-- `SPRITE0_HIT_X255`, whether sprite-0 hit is reported at x = 255 (D25). -/
  sprite0HitX255 : Bool
  /-- `NMI_ON_CTRL_ENABLE`, whether setting PPUCTRL bit 7 while VBL is set raises an NMI (D27). -/
  nmiOnCtrlEnable : Bool
  /-- `PRG_RAM_WITHOUT_BATTERY`, whether PRG-RAM is allocated when the battery bit is clear (D32). -/
  prgRamWithoutBattery : Bool
  /-- `MMC3_A12_M2_MIN`, CPU cycles A12 must be seen low before a rise counts (D38). -/
  mmc3A12M2Min : Nat
  deriving DecidableEq, Repr

/-- The defaults of R11, which the spec's test vectors use. -/
def Params.defaults : Params where
  resetP := 0x24
  sprite0HitX255 := false
  nmiOnCtrlEnable := true
  prgRamWithoutBattery := false
  mmc3A12M2Min := 3

/-- `OPEN_BUS_DECAY_FRAMES` (D17): OPEN in the spec, with no default. A free value: nothing constrains it (log 4). -/
opaque Config.openBusDecayFrames : Nat

/-- The low pattern byte of a sprite slot that is loaded at dot 264+8i with rendering enabled although its
fetch dot 262+8i passed with rendering disabled: the spec states no value. A free value, drawn with the
machine's counter `State.freeCount` (log 7). -/
opaque Config.unfetchedSpriteLow : Nat → Byte

end Sys2Proof
end

