-- ==== Sys2Proof/Machine/State.lean ====
section
/-! DEFINITION. The state of the core as plain data (spec/10_state.md), and the state right after reset. -/

namespace Sys2Proof.Machine

/-- A byte buffer: its listed bytes by index, indices rising, no byte that equals what an unlisted index reads as
(Machine/Memory.lean). -/
abbrev Memory := List Host.Cell

/-- CPU registers and the CPU's hidden state (R100-R115). `irq_line` is not stored: it is the mapper's output at
the moment it is sampled (R112, R1302). -/
structure Cpu where
  a : Byte
  x : Byte
  y : Byte
  sp : Byte
  pc : Word
  /-- P, bits N V U B D I Z C (R105). -/
  p : Byte
  /-- Remaining cycles of the instruction or sequence in flight (R110). -/
  cycles : Nat
  /-- Set by the unknown-opcode fault (R111). -/
  halted : Bool
  nmiPending : Bool
  /-- `cpu_cycle_count` (R113). -/
  cycleCount : Nat
  /-- Stolen cycles not yet added to `cycles` (R115). -/
  dmaStall : Nat
  deriving DecidableEq, Repr

/-- One sprite slot of the current line: `spr_lo[i]`, `spr_hi[i]`, `spr_x[i]`, `spr_attr[i]` (R128). -/
structure SpriteSlot where
  lo : Byte
  hi : Byte
  x : Byte
  attr : Byte
  deriving DecidableEq, Repr

/-- The PPU (R120-R129). -/
structure Ppu where
  ctrl : Byte
  mask : Byte
  vbl : Bool
  sprite0Hit : Bool
  overflow : Bool
  oamAddr : Byte
  /-- `vram_address` (R121). -/
  v : BitVec 15
  /-- `temp_vram_address` (R121). -/
  t : BitVec 15
  fineX : BitVec 3
  /-- The two-write latch shared by PPUSCROLL and PPUADDR (R122). -/
  w : Bool
  readBuffer : Byte
  openBus : Byte
  openBusAge : Nat
  /-- With `dot`: the next dot to process (R124, D47). -/
  scanline : Int
  dot : Nat
  frame : Nat
  oam : Memory
  secOam : Memory
  secCount : Nat
  secHasZero : Bool
  palette : Vector (BitVec 6) 32
  bgPatLo : BitVec 16
  bgPatHi : BitVec 16
  bgAttrLo : BitVec 16
  bgAttrHi : BitVec 16
  ntNext : Byte
  atNext : BitVec 2
  patLoNext : Byte
  patHiNext : Byte
  slots : Vector SpriteSlot 8
  sprCount : Nat
  sprZeroInLine : Bool
  /-- The byte `lo` of R1143 between its fetch dot and the slot's load dot (log 7). -/
  sprLoLatch : Option Byte
  vblSuppress : Bool
  nmiCallbackRegistered : Bool
  deriving DecidableEq, Repr

/-- Nametable mirroring (R140, R1201). -/
inductive Mirroring where
  | horizontal
  | vertical
  deriving DecidableEq, Repr

/-- The MMC3's private state (R141). -/
structure Mmc3 where
  bankSelect : BitVec 3
  prgMode : Bool
  chrMode : Bool
  regs : Vector Byte 8
  mirroring : Mirroring
  irqLatch : Byte
  irqCounter : Byte
  irqReload : Bool
  irqEnabled : Bool
  irqAsserted : Bool
  a12Prev : Bool
  a12LowCycles : Nat
  deriving DecidableEq, Repr

/-- The five variants and their private state (R4, R141). -/
inductive Mapper where
  | nrom
  | uxrom (prgBank : Byte)
  | cnrom (chrBank : Byte)
  | gxrom (prgBank : BitVec 2) (chrBank : BitVec 2)
  | mmc3 (m : Mmc3)
  deriving DecidableEq, Repr

/-- The cartridge record (R140). `chr_is_ram` is `chrBanks = 0` (R1203), the mapper number that of the variant. -/
structure Cartridge where
  prgBanks : Nat
  prgRom : Memory
  chrBanks : Nat
  chr : Memory
  prgRam : Option Memory
  /-- The size of PRG-RAM in 8KB units (R1203). -/
  prgRamBanks : Nat
  mirroring : Mirroring
  battery : Bool
  mapper : Mapper
  deriving DecidableEq, Repr

/-- What `bus.cycle()` returns (R1301, R442). -/
inductive BusResult where
  | none
  | inProgress
  | complete
  | failure
  deriving DecidableEq, Repr

/-- One call of the pixel sink (R1152). -/
structure Pixel where
  x : Nat
  y : Nat
  colour : BitVec 6
  deriving DecidableEq, Repr

/-- The whole core. `cart` is absent before a load, after a failed load and after teardown (R1202, R1271). -/
structure State where
  cpu : Cpu
  ppu : Ppu
  cart : Option Cartridge
  /-- CPU work RAM, 2048 bytes (R160). -/
  ram : Memory
  /-- Console VRAM, two 1KB banks (R160). -/
  vram : Memory
  /-- The bus's sub-cycle counter (R160, R1301). -/
  clock : Nat
  /-- The strobe common to both gamepads (R161). -/
  strobe : Bool
  shift1 : Nat
  shift2 : Nat
  /-- Host input `Buttons(1)`; bit i is the button of index i (R1330, log 5). -/
  buttons1 : Byte
  buttons2 : Byte
  params : Params
  /-- Output: the result of the last bus call (log 6). -/
  result : BusResult
  /-- Output: the pixel sink call of the last dot, if it made one (log 6). -/
  pixel : Option Pixel
  /-- The model's own counter of free values drawn (log 7). -/
  freeCount : Nat
  deriving DecidableEq, Repr

/-- Why the machine stops. -/
inductive Fault where
  /-- Raised by `busCycle` (one step) when no cartridge is in the machine: "the host must not reset or run" (R1202),
  "After teardown no access is defined" (R1271). Safe: the spec gives such a call no meaning. -/
  | noCartridge
  deriving DecidableEq, Repr

/-- Why an instruction has no meaning in the model. -/
inductive Refusal where
  /-- Raised by `exec` for a row whose meaning is not written yet; no row is left so. Safe. -/
  | notModelled (mnemonic : String)
  deriving DecidableEq, Repr

/-- What a meaning answers. -/
abbrev Result := Host.Outcome State Fault Refusal

/-- The cartridge in `State.reset`: NROM with two PRG banks and CHR-RAM, as the spec's test vectors use, and no
byte listed (log 2; DESIGN CHOICE: the spec makes the cartridge a host input). -/
def blankCartridge : Cartridge where
  prgBanks := 2
  prgRom := []
  chrBanks := 0
  chr := []
  prgRam := none
  prgRamBanks := 1
  mirroring := .horizontal
  battery := false
  mapper := .nrom

/-- The CPU right after reset (R1501 step 4); PC is the blank cartridge's reset vector (log 2). -/
def Cpu.reset : Cpu where
  a := 0
  x := 0
  y := 0
  sp := 0xFD
  pc := 0x0000
  p := 0x24
  cycles := 7
  halted := false
  nmiPending := false
  cycleCount := 0
  dmaStall := 0

/-- The PPU right after reset (R1501 step 3); OAM, secondary OAM and palette as log 1 says. -/
def Ppu.reset : Ppu where
  ctrl := 0
  mask := 0
  vbl := false
  sprite0Hit := false
  overflow := false
  oamAddr := 0
  v := 0
  t := 0
  fineX := 0
  w := false
  readBuffer := 0
  openBus := 0
  openBusAge := 0
  scanline := -1
  dot := 0
  frame := 0
  oam := []
  secOam := []
  secCount := 0
  secHasZero := false
  palette := Vector.replicate 32 0
  bgPatLo := 0
  bgPatHi := 0
  bgAttrLo := 0
  bgAttrHi := 0
  ntNext := 0
  atNext := 0
  patLoNext := 0
  patHiNext := 0
  slots := Vector.replicate 8 ⟨0, 0, 0, 0⟩
  sprCount := 0
  sprZeroInLine := false
  sprLoLatch := none
  vblSuppress := false
  nmiCallbackRegistered := true

/-- The machine right after reset (R1501, R1503), with the blank cartridge in it (log 2) and the parameters at
their defaults (log 3). -/
def State.reset : State where
  cpu := Cpu.reset
  ppu := Ppu.reset
  cart := some blankCartridge
  ram := []
  vram := []
  clock := 0
  strobe := false
  shift1 := 0
  shift2 := 0
  buttons1 := 0
  buttons2 := 0
  params := Params.defaults
  result := .none
  pixel := none
  freeCount := 0

end Sys2Proof.Machine
end

