-- ==== Sys2Proof/Machine/Memory.lean ====
section
/-! DEFINITION. Byte buffers (work RAM, VRAM, OAM, ROM, ...): one canonical list for each, and their only operations. -/

namespace Sys2Proof.Machine

/-- What an unlisted byte reads as: the canonical form lists every byte that is not $00. What a RAM holds before
anything writes it is the draw `POWER_ON_STATE`, an argument of `powerOn` and of `hostLoad`; a list with nothing in
it, as in `State.reset`, is the draw that is all zero (log 1; DESIGN CHOICE). -/
def Memory.unlisted : Byte := 0

/-- The byte at an index. -/
def Memory.read : Memory → Nat → Byte
  | [], _ => Memory.unlisted
  | (k, b) :: m, i => if k = i then b else Memory.read m i

/-- Put a listed byte at its place, in rising order of the indices. -/
def Memory.insert : Memory → Nat → Byte → Memory
  | [], i, v => [(i, v)]
  | (k, b) :: m, i, v =>
    if i < k then (i, v) :: (k, b) :: m
    else if k = i then (i, v) :: m
    else (k, b) :: Memory.insert m i v

/-- Store a byte: the value an unlisted index reads as takes the entry out. -/
def Memory.write (m : Memory) (i : Nat) (v : Byte) : Memory :=
  if v = Memory.unlisted then m.filter (fun c => c.1 != i) else Memory.insert m i v

/-- Canonical from index `n` on: indices rising, and no entry that an unlisted index would read as. -/
def Memory.wfFrom : Nat → Memory → Bool
  | _, [] => true
  | n, (k, b) :: m => decide (n ≤ k) && b != Memory.unlisted && Memory.wfFrom (k + 1) m

/-- The canonical form of a buffer. -/
def Memory.wf (m : Memory) : Bool := Memory.wfFrom 0 m

/-- Every listed index is below the buffer's size. -/
def Memory.bounded (size : Nat) (m : Memory) : Bool := m.all (fun c => decide (c.1 < size))

/-- The buffer that holds the given bytes from index `n` on. -/
def Memory.ofBytesFrom : Nat → List Byte → Memory
  | _, [] => []
  | n, b :: bs =>
    if b = Memory.unlisted then Memory.ofBytesFrom (n + 1) bs else (n, b) :: Memory.ofBytesFrom (n + 1) bs

/-- The buffer that holds the given bytes. -/
def Memory.ofBytes (bs : List Byte) : Memory := Memory.ofBytesFrom 0 bs

/-- A buffer of `size` bytes that holds drawn bytes: byte `i` is the draw's byte `i`, and $00 past the draw's end. -/
def Memory.drawn (size : Nat) (bytes : List Byte) : Memory := Memory.ofBytes (bytes.take size)

/-- The same byte at `n` places, from index `i` on. -/
def Memory.fill (m : Memory) (i n : Nat) (v : Byte) : Memory :=
  match n with
  | 0 => m
  | n + 1 => Memory.fill (m.write i v) (i + 1) n v

end Sys2Proof.Machine
end

