-- ==== Sys2Proof/Machine/Mapper.lean ====
section
/-! DEFINITION. The cartridge: the mapper contract and the five variants (spec/52_cartridge_mappers.md). -/

namespace Sys2Proof.Machine

/-- The iNES mapper number of each variant (R1204). -/
def Mapper.number : Mapper → Nat
  | .nrom => 0
  | .uxrom _ => 2
  | .cnrom _ => 3
  | .mmc3 _ => 4
  | .gxrom _ _ => 66

/-- CHR memory is RAM when the header declares no CHR-ROM (R1203). -/
def Cartridge.chrIsRam (c : Cartridge) : Bool := c.chrBanks == 0

/-- The size of PRG-ROM in bytes (R140). -/
def Cartridge.prgSize (c : Cartridge) : Nat := 16384 * c.prgBanks

/-- The size of CHR memory in bytes; CHR-RAM is 8KB (R140, R1203). -/
def Cartridge.chrSize (c : Cartridge) : Nat := if c.chrBanks = 0 then 8192 else 8192 * c.chrBanks

/-- The size of PRG-RAM in bytes, when it exists (R1203). -/
def Cartridge.prgRamSize (c : Cartridge) : Nat := 8192 * c.prgRamBanks

/-- Bank arithmetic (R1209): the index in a buffer of `size` bytes of the byte at offset `o` of bank `b`, for banks
of `bank` bytes. -/
def bankIndex (size bank b o : Nat) : Nat :=
  let count := max 1 (size / bank)
  ((b % count) * bank + o) % size

/-- The MMC3's 8KB PRG bank for a CPU address in $8000-$FFFF (R1241). -/
def Mmc3.prgBank (m : Mmc3) (prgBanks : Nat) (a : Word) : Nat :=
  let n8 := 2 * prgBanks
  match (a.toNat / 0x2000) % 4 with
  | 0 => if m.prgMode then n8 - 2 else m.regs[6].toNat
  | 1 => m.regs[7].toNat
  | 2 => if m.prgMode then m.regs[6].toNat else n8 - 2
  | _ => n8 - 1

/-- The index in PRG-ROM that a CPU address in $8000-$FFFF reads (R1220, R1225, R1230, R1235, R1241). -/
def Cartridge.prgIndex (c : Cartridge) (a : Word) : Nat :=
  let o := a.toNat - 0x8000
  match c.mapper with
  | .nrom | .cnrom _ => o % c.prgSize
  | .uxrom bank =>
    if o < 0x4000 then bankIndex c.prgSize 0x4000 bank.toNat (o % 0x4000)
    else bankIndex c.prgSize 0x4000 (c.prgBanks - 1) (o % 0x4000)
  | .gxrom prg _ => bankIndex c.prgSize 0x8000 prg.toNat o
  | .mmc3 m => bankIndex c.prgSize 0x2000 (m.prgBank c.prgBanks a) (o % 0x2000)

/-- The MMC3's 1KB CHR bank for a PPU address in $0000-$1FFF (R1242). -/
def Mmc3.chrBank (m : Mmc3) (a : BitVec 14) : Nat :=
  let window := (a.toNat / 0x400) % 8
  match if m.chrMode then (window + 4) % 8 else window with
  | 0 => m.regs[0].toNat
  | 1 => m.regs[0].toNat + 1
  | 2 => m.regs[1].toNat
  | 3 => m.regs[1].toNat + 1
  | 4 => m.regs[2].toNat
  | 5 => m.regs[3].toNat
  | 6 => m.regs[4].toNat
  | _ => m.regs[5].toNat

/-- The index in CHR memory that a PPU address in $0000-$1FFF reaches (R1220, R1225, R1230, R1235, R1242). -/
def Cartridge.chrIndex (c : Cartridge) (a : BitVec 14) : Nat :=
  match c.mapper with
  | .nrom | .uxrom _ => a.toNat
  | .cnrom bank => bankIndex c.chrSize 0x2000 bank.toNat a.toNat
  | .gxrom _ bank => bankIndex c.chrSize 0x2000 bank.toNat a.toNat
  | .mmc3 m => bankIndex c.chrSize 0x400 (m.chrBank a) (a.toNat % 0x400)

/-- `cpu_read` (R1206, R1207): the byte, if the cartridge claims the address. -/
def Cartridge.cpuRead (c : Cartridge) (a : Word) : Option Byte :=
  if 0x8000 ≤ a.toNat then some (c.prgRom.read (c.prgIndex a))
  else if 0x6000 ≤ a.toNat then c.prgRam.map (fun m => m.read (a.toNat % 0x2000))
  else none

/-- MMC3 bank data (R1240): R0 and R1 drop bit 0, R6 and R7 drop bits 7-6. -/
def Mmc3.bankData (m : Mmc3) (v : Byte) : Mmc3 :=
  let stored : Byte := match m.bankSelect.toNat with
    | 0 | 1 => v &&& 0xFE
    | 6 | 7 => v &&& 0x3F
    | _ => v
  { m with regs := m.regs.set m.bankSelect.toNat stored m.bankSelect.isLt }

/-- MMC3 register writes, decoded by `a & $E001` (R1240). -/
def Mmc3.write (m : Mmc3) (a : Word) (v : Byte) : Mmc3 :=
  match (a &&& 0xE001).toNat with
  | 0x8000 => { m with bankSelect := v.setWidth 3, prgMode := v.getLsbD 6, chrMode := v.getLsbD 7 }
  | 0x8001 => m.bankData v
  | 0xA000 => { m with mirroring := if v.getLsbD 0 then .horizontal else .vertical }
  | 0xC000 => { m with irqLatch := v }
  | 0xC001 => { m with irqReload := true }
  | 0xE000 => { m with irqEnabled := false, irqAsserted := false }
  | 0xE001 => { m with irqEnabled := true }
  | _ => m

/-- A CPU write to $8000-$FFFF: it never changes PRG-ROM (R1208), and writes the variant's registers
(R1220, R1225, R1230, R1235, R1240). -/
def Mapper.write (mp : Mapper) (a : Word) (v : Byte) : Mapper :=
  match mp with
  | .nrom => .nrom
  | .uxrom _ => .uxrom v
  | .cnrom _ => .cnrom v
  | .gxrom _ _ => .gxrom (v.extractLsb' 4 2) (v.extractLsb' 0 2)
  | .mmc3 m => .mmc3 (m.write a v)

/-- `cpu_write` (R1206, R1207, R1208): the cartridge after the write, if it claims the address. -/
def Cartridge.cpuWrite (c : Cartridge) (a : Word) (v : Byte) : Option Cartridge :=
  if 0x8000 ≤ a.toNat then some { c with mapper := c.mapper.write a v }
  else if 0x6000 ≤ a.toNat then
    c.prgRam.map (fun m => { c with prgRam := some (m.write (a.toNat % 0x2000) v) })
  else none

/-- `ppu_read` (R1210): the cartridge claims $0000-$1FFF. -/
def Cartridge.ppuRead (c : Cartridge) (a : BitVec 14) : Option Byte :=
  if a.toNat < 0x2000 then some (c.chr.read (c.chrIndex a)) else none

/-- `ppu_write` (R1210): stored in CHR-RAM, ignored by CHR-ROM, claimed either way. -/
def Cartridge.ppuWrite (c : Cartridge) (a : BitVec 14) (v : Byte) : Option Cartridge :=
  if a.toNat < 0x2000 then
    some (if c.chrIsRam then { c with chr := c.chr.write (c.chrIndex a) v } else c)
  else none

/-- The mirroring in force: the header's, or the MMC3's own (R1210, R1243). -/
def Cartridge.currentMirroring (c : Cartridge) : Mirroring :=
  match c.mapper with
  | .mmc3 m => m.mirroring
  | _ => c.mirroring

/-- `VRAM_CE` for an unclaimed PPU bus address: $2000-$3EFF (R1210). -/
def vramEnabled (a : BitVec 14) : Bool := decide (0x2000 ≤ a.toNat) && decide (a.toNat ≤ 0x3EFF)

/-- The console VRAM byte that `VRAM_A10` and the low ten address bits select (R1102, R1210). -/
def Cartridge.vramIndex (c : Cartridge) (a : BitVec 14) : Nat :=
  let bank := match c.currentMirroring with
    | .vertical => a.getLsbD 10
    | .horizontal => a.getLsbD 11
  (if bank then 0x400 else 0) + a.toNat % 0x400

/-- `ClockIrqCounter` (R1262). -/
def Mmc3.clockIrq (m : Mmc3) : Mmc3 :=
  let reload := m.irqCounter == 0 || m.irqReload
  let counter : Byte := if reload then m.irqLatch else m.irqCounter - 1
  { m with
    irqCounter := counter
    irqReload := if reload then false else m.irqReload
    irqAsserted := m.irqAsserted || (counter == 0 && m.irqEnabled) }

/-- The A12 snoop on one PPU bus access (R1260). -/
def Mmc3.snoop (m : Mmc3) (minLow : Nat) (a : BitVec 14) : Mmc3 :=
  let a12 := a.getLsbD 12
  let m1 := if a12 && !m.a12Prev && decide (minLow ≤ m.a12LowCycles) then m.clockIrq else m
  { m1 with a12LowCycles := if a12 then 0 else m1.a12LowCycles, a12Prev := a12 }

/-- Every PPU bus access is seen by the mapper (R1102, R1260). -/
def Cartridge.snoop (c : Cartridge) (minLow : Nat) (a : BitVec 14) : Cartridge :=
  match c.mapper with
  | .mmc3 m => { c with mapper := .mmc3 (m.snoop minLow a) }
  | _ => c

/-- The `cpu_clock` hook, after each CPU step (R1205, R1261). -/
def Cartridge.cpuClock (c : Cartridge) : Cartridge :=
  match c.mapper with
  | .mmc3 m => if m.a12Prev then c else { c with mapper := .mmc3 { m with a12LowCycles := m.a12LowCycles + 1 } }
  | _ => c

/-- The mapper's IRQ output (R1263). -/
def Cartridge.irqOutput (c : Cartridge) : Bool :=
  match c.mapper with
  | .mmc3 m => m.irqAsserted
  | _ => false

/-- The MMC3's private state at load and reset (R141). -/
def Mmc3.initial (mirroring : Mirroring) : Mmc3 where
  bankSelect := 0
  prgMode := false
  chrMode := false
  regs := Vector.replicate 8 0
  mirroring := mirroring
  irqLatch := 0
  irqCounter := 0
  irqReload := false
  irqEnabled := false
  irqAsserted := false
  a12Prev := false
  a12LowCycles := 0

/-- The `init` and `reset` hooks: every private field at its reset value (R141, R1205, R1270). -/
def Cartridge.resetMapper (c : Cartridge) : Cartridge :=
  { c with mapper := match c.mapper with
      | .nrom => .nrom
      | .uxrom _ => .uxrom 0
      | .cnrom _ => .cnrom 0
      | .gxrom _ _ => .gxrom 0 0
      | .mmc3 _ => .mmc3 (Mmc3.initial c.mirroring) }

/-- The variant of a mapper number, with its private state at its load value (R141, R1204). -/
def Mapper.ofNumber (n : Nat) (mirroring : Mirroring) : Option Mapper :=
  match n with
  | 0 => some .nrom
  | 2 => some (.uxrom 0)
  | 3 => some (.cnrom 0)
  | 4 => some (.mmc3 (Mmc3.initial mirroring))
  | 66 => some (.gxrom 0 0)
  | _ => none

end Sys2Proof.Machine
end

