-- ==== Sys2Proof/Machine/PpuBus.lean ====
section
/-! DEFINITION. The PPU's accesses to its 14-bit address space (spec/51_ppu_rendering.md R1101-R1104). A read is
two functions: the byte it returns, and the state it leaves. -/

namespace Sys2Proof.Machine

/-- `PalIndex` (R1103): entries $10, $14, $18 and $1C alias $00, $04, $08 and $0C. -/
def palIndex (a : BitVec 14) : BitVec 5 :=
  let i := a.setWidth 5
  if i &&& 0x13 = 0x10 then i &&& 0x0F else i

/-- The palette entry of an index (R1103, R127). -/
def Ppu.paletteEntry (p : Ppu) (i : BitVec 5) : BitVec 6 := p.palette.get i.toFin

/-- The addresses that palette RAM takes inside the PPU (R1101). -/
def isPaletteAddr (a : BitVec 14) : Bool := decide (0x3F00 ≤ a.toNat)

/-- The cartridge sees an access on the PPU bus (R1102, R1260). -/
def State.snoopPpuBus (s : State) (a : BitVec 14) : State :=
  { s with cart := s.cart.map (fun c => c.snoop s.params.mmc3A12M2Min a) }

/-- Console VRAM or nothing, for an access that the cartridge does not claim (R1102). With no cartridge there is
no `VRAM_CE`, so nothing is reached (log 13). -/
def State.vramTarget (s : State) (a : BitVec 14) : Option Nat :=
  if vramEnabled a then s.cart.map (fun c => c.vramIndex a) else none

/-- The byte that `PpuRead(a)` returns (R1101, R1102). -/
def State.ppuRead (s : State) (a : BitVec 14) : Byte :=
  if isPaletteAddr a then (s.ppu.paletteEntry (palIndex a)).setWidth 8
  else match s.cart.bind (fun c => c.ppuRead a) with
    | some b => b
    | none => match s.vramTarget a with
      | some i => s.vram.read i
      | none => 0

/-- The state after `PpuRead(a)`: a palette access never appears on the PPU bus (R1101). -/
def State.afterPpuRead (s : State) (a : BitVec 14) : State :=
  if isPaletteAddr a then s else s.snoopPpuBus a

/-- A write that reached the PPU bus: cartridge first, then console VRAM, else ignored (R1102). -/
def State.ppuBusWrite (s : State) (a : BitVec 14) (v : Byte) : State :=
  match s.cart.bind (fun c => c.ppuWrite a v) with
  | some c => { s with cart := some c }
  | none => match s.vramTarget a with
    | some i => { s with vram := s.vram.write i v }
    | none => s

/-- `PpuWrite(a, v)` (R1101, R1102). -/
def State.ppuWrite (s : State) (a : BitVec 14) (v : Byte) : State :=
  if isPaletteAddr a then
    { s with ppu.palette := s.ppu.palette.set (palIndex a).toNat (v.setWidth 6) (palIndex a).isLt }
  else (s.snoopPpuBus a).ppuBusWrite a v

end Sys2Proof.Machine
end

