-- ==== Sys2Proof/Machine/PpuRegs.lean ====
section
/-! DEFINITION. The eight PPU registers as the CPU sees them (spec/50_ppu_registers.md). A read is two functions: the
byte it returns, and the state it leaves. -/

namespace Sys2Proof.Machine

/-- Rendering is enabled when background or sprites are shown (R1011). -/
def Ppu.renderingEnabled (p : Ppu) : Bool := p.mask.getLsbD 3 || p.mask.getLsbD 4

/-- The PPU's NMI callback into the CPU (R1410), which the bus has registered (R129). -/
def State.signalNmi (s : State) : State :=
  if s.ppu.nmiCallbackRegistered then { s with cpu.nmiPending := true } else s

/-- The VBL race (R1040): the next dot is (241, 1). -/
def Ppu.inVblRace (p : Ppu) : Bool := decide (p.scanline = 241) && decide (p.dot = 1)

/-- `{VBL, S0, O, open_bus[4:0]}` (R1030), with VBL = 0 in the race (R1040). -/
def Ppu.statusByte (p : Ppu) : Byte :=
  (if p.vbl && !p.inVblRace then 0x80 else 0)
  ||| (if p.sprite0Hit then 0x40 else 0)
  ||| (if p.overflow then 0x20 else 0)
  ||| (p.openBus &&& 0x1F)

/-- The state after a PPUSTATUS read (R1030, R1040). -/
def Ppu.afterStatusRead (p : Ppu) : Ppu :=
  { p with vbl := false, w := false, vblSuppress := p.vblSuppress || p.inVblRace }

/-- PPUDATA's address on the PPU bus: the low 14 bits of v (R121, R1104). -/
def Ppu.dataAddr (p : Ppu) : BitVec 14 := p.v.setWidth 14

/-- The step of v after each PPUDATA access (R1025). -/
def Ppu.incrementV (p : Ppu) : Ppu := { p with v := p.v + (if p.ctrl.getLsbD 2 then 32 else 1) }

/-- The byte that `read_reg(r)` returns (R1000, R1003, R1017, R1026, R1030). -/
def State.regRead (s : State) (r : BitVec 3) : Byte :=
  match r.toNat with
  | 2 => s.ppu.statusByte
  | 4 => s.ppu.oam.read s.ppu.oamAddr.toNat
  | 7 => if isPaletteAddr s.ppu.dataAddr then s.ppuRead s.ppu.dataAddr else s.ppu.readBuffer
  | _ => s.ppu.openBus

/-- The state after `read_reg(r)`. Only PPUSTATUS and PPUDATA reads have an effect (R1003, R1017, R1026, R1030). -/
def State.afterRegRead (s : State) (r : BitVec 3) : State :=
  match r.toNat with
  | 2 => { s with ppu := s.ppu.afterStatusRead }
  | 7 =>
    let s1 := s.afterPpuRead s.ppu.dataAddr
    { s1 with ppu := { s1.ppu with readBuffer := s.ppuRead s.ppu.dataAddr }.incrementV }
  | _ => s

/-- PPUCTRL write (R1010). -/
def State.writeCtrl (s : State) (v : Byte) : State :=
  let s1 := { s with ppu.ctrl := v, ppu.t := (s.ppu.t &&& 0x73FF) ||| ((v &&& 0x03).setWidth 15 <<< 10) }
  if !s.ppu.ctrl.getLsbD 7 && v.getLsbD 7 && s.ppu.vbl && s.params.nmiOnCtrlEnable then s1.signalNmi else s1

/-- PPUSCROLL write (R1020). -/
def Ppu.writeScroll (p : Ppu) (v : Byte) : Ppu :=
  if p.w then
    { p with
      t := (p.t &&& 0x0C1F) ||| ((v &&& 0x07).setWidth 15 <<< 12) ||| ((v >>> 3).setWidth 15 <<< 5)
      w := false }
  else
    { p with t := (p.t &&& 0x7FE0) ||| (v >>> 3).setWidth 15, fineX := v.setWidth 3, w := true }

/-- PPUADDR write (R1021). -/
def Ppu.writeAddr (p : Ppu) (v : Byte) : Ppu :=
  if p.w then
    let t := (p.t &&& 0x7F00) ||| v.setWidth 15
    { p with t := t, v := t, w := false }
  else
    { p with t := (p.t &&& 0x00FF) ||| ((v &&& 0x3F).setWidth 15 <<< 8), w := true }

/-- "During rendering" for OAMDATA writes (R1016, D18). -/
def Ppu.rendering (p : Ppu) : Bool :=
  p.renderingEnabled && decide (-1 ≤ p.scanline) && decide (p.scanline ≤ 239)

/-- OAMDATA write (R1016). -/
def Ppu.writeOamData (p : Ppu) (v : Byte) : Ppu :=
  if p.rendering then p
  else { p with oam := p.oam.write p.oamAddr.toNat v, oamAddr := p.oamAddr + 1 }

/-- PPUDATA write (R1025). -/
def State.writePpuData (s : State) (v : Byte) : State :=
  let s1 := s.ppuWrite s.ppu.dataAddr v
  { s1 with ppu := s1.ppu.incrementV }

/-- Every register write first refreshes the open-bus latch (R1001). -/
def State.refreshOpenBus (s : State) (v : Byte) : State := { s with ppu.openBus := v, ppu.openBusAge := 0 }

/-- `write_reg(r, v)` (R1000, R1001, R1010-R1025). A write to PPUSTATUS only refreshes the latch (R1030). -/
def State.regWrite (s : State) (r : BitVec 3) (v : Byte) : State :=
  let s := s.refreshOpenBus v
  match r.toNat with
  | 0 => s.writeCtrl v
  | 1 => { s with ppu.mask := v }
  | 3 => { s with ppu.oamAddr := v }
  | 4 => { s with ppu := s.ppu.writeOamData v }
  | 5 => { s with ppu := s.ppu.writeScroll v }
  | 6 => { s with ppu := s.ppu.writeAddr v }
  | 7 => s.writePpuData v
  | _ => s

end Sys2Proof.Machine
end

