-- ==== Sys2Proof/Machine/Bus.lean ====
section
/-! DEFINITION. The system bus: CPU address routing, OAM DMA and the controllers (spec/53_bus_dma_controller.md). A
read is two functions: the byte it returns (`busRead`), and the state it leaves (`afterRead`). -/

namespace Sys2Proof.Machine

/-- The button bit that the port's next read returns (R1330). -/
def padBit (strobe : Bool) (shift : Nat) (buttons : Byte) : Bool :=
  if strobe then buttons.getLsbD 0 else if shift < 8 then buttons.getLsbD shift else true

/-- The shift index after a controller read (R1330). -/
def padShift (strobe : Bool) (shift : Nat) : Nat := if !strobe && decide (shift < 8) then shift + 1 else shift

/-- A controller read returns `$40 | bit` (R1330). -/
def padByte (bit : Bool) : Byte := if bit then 0x41 else 0x40

/-- The PPU register that a CPU address in $2000-$3FFF selects (R1000). -/
def ppuRegOf (a : Word) : BitVec 3 := a.setWidth 3

/-- What the cartridge answers to a CPU read, if it claims the address (R1310 step 1). -/
def State.cartRead (s : State) (a : Word) : Option Byte := s.cart.bind (fun c => c.cpuRead a)

/-- The byte that a CPU read returns (R1310). -/
def State.busRead (s : State) (a : Word) : Byte :=
  match s.cartRead a with
  | some b => b
  | none =>
    if a.toNat ≤ 0x1FFF then s.ram.read (a.toNat % 0x800)
    else if a.toNat ≤ 0x3FFF then s.regRead (ppuRegOf a)
    else if a = 0x4016 then padByte (padBit s.strobe s.shift1 s.buttons1)
    else if a = 0x4017 then padByte (padBit s.strobe s.shift2 s.buttons2)
    else 0

/-- The state after a CPU read (R1310, R221). -/
def State.afterRead (s : State) (a : Word) : State :=
  match s.cartRead a with
  | some _ => s
  | none =>
    if a.toNat ≤ 0x1FFF then s
    else if a.toNat ≤ 0x3FFF then s.afterRegRead (ppuRegOf a)
    else if a = 0x4016 then { s with shift1 := padShift s.strobe s.shift1 }
    else if a = 0x4017 then { s with shift2 := padShift s.strobe s.shift2 }
    else s

/-- One byte of OAM DMA (R1320): byte `i` of page `page`, read through the bus, into OAM at OAMADDR + i. -/
def State.dmaByte (s : State) (page : Byte) (i : Nat) : State :=
  let a : Word := page ++ BitVec.ofNat 8 i
  let s1 := s.afterRead a
  { s1 with ppu.oam := s1.ppu.oam.write (s1.ppu.oamAddr + BitVec.ofNat 8 i).toNat (s.busRead a) }

/-- The first `n` bytes of OAM DMA, in order (R1320). -/
def State.dmaBytes (s : State) (page : Byte) : Nat → State
  | 0 => s
  | n + 1 => (State.dmaBytes s page n).dmaByte page n

/-- OAM DMA (R1320): the copy at once, then 513 stolen cycles, or 514 at an odd `cpu_cycle_count`. -/
def State.oamDma (s : State) (page : Byte) : State :=
  let s1 := s.dmaBytes page 256
  { s1 with cpu.dmaStall := s1.cpu.dmaStall + 513 + s1.cpu.cycleCount % 2 }

/-- Controller strobe (R1331). -/
def State.writeStrobe (s : State) (v : Byte) : State :=
  if v.getLsbD 0 then { s with strobe := true, shift1 := 0, shift2 := 0 } else { s with strobe := false }

/-- A CPU write (R1311). -/
def State.busWrite (s : State) (a : Word) (v : Byte) : State :=
  match s.cart.bind (fun c => c.cpuWrite a v) with
  | some c => { s with cart := some c }
  | none =>
    if a.toNat ≤ 0x1FFF then { s with ram := s.ram.write (a.toNat % 0x800) v }
    else if a.toNat ≤ 0x3FFF then s.regWrite (ppuRegOf a) v
    else if a = 0x4014 then s.oamDma v
    else if a = 0x4016 then s.writeStrobe v
    else s

/-- The boolean that `write(ctx, addr, byte)` returns (R200, R1311): true when the cartridge claims the write or it
reaches work RAM, a PPU register, OAM DMA or the strobe, false when it is ignored. The CPU ignores it, so no meaning
reads it. -/
def State.busWriteResult (s : State) (a : Word) (v : Byte) : Bool :=
  (s.cart.bind (fun c => c.cpuWrite a v)).isSome || decide (a.toNat ≤ 0x3FFF) || a == 0x4014 || a == 0x4016

/-- `irq_line`: the cartridge's IRQ output at the moment it is sampled (R112, R1302). -/
def State.irqLine (s : State) : Bool :=
  match s.cart with
  | some c => c.irqOutput
  | none => false

end Sys2Proof.Machine
end

