-- ==== Sys2Proof/Machine/Flags.lean ====
section
/-! DEFINITION. The CPU registers' updates, the flags of P (spec/10_state.md R103-R107) and every flag computation
(spec/00_scope.md R16, spec/42_arith_logic.md R600-R602, spec/43_shift_rmw.md). -/

namespace Sys2Proof.Machine

/-- `A <- v` (R14). -/
def State.setA (s : State) (v : Byte) : State := { s with cpu.a := v }

/-- `X <- v` (R14). -/
def State.setX (s : State) (v : Byte) : State := { s with cpu.x := v }

/-- `Y <- v` (R14). -/
def State.setY (s : State) (v : Byte) : State := { s with cpu.y := v }

/-- `SP <- v` (R14). -/
def State.setSp (s : State) (v : Byte) : State := { s with cpu.sp := v }

/-- `PC <- v` (R14, R16). -/
def State.setPc (s : State) (v : Word) : State := { s with cpu.pc := v }

/-- Replace P as stored. -/
def State.setP (s : State) (v : Byte) : State := { s with cpu.p := v }

/-- Bit `i` of P made `b`, the other bits kept. -/
def setBit (p : Byte) (i : Nat) (b : Bool) : Byte :=
  if b then p ||| (1#8 <<< i) else p &&& ~~~(1#8 <<< i)

/-- P.C, bit 0 (R105). -/
def flagC (p : Byte) : Bool := p.getLsbD 0

/-- P.Z, bit 1 (R105). -/
def flagZ (p : Byte) : Bool := p.getLsbD 1

/-- P.I, bit 2 (R105). -/
def flagI (p : Byte) : Bool := p.getLsbD 2

/-- P.D, bit 3 (R105). No result depends on it (R107). -/
def flagD (p : Byte) : Bool := p.getLsbD 3

/-- P.B, bit 4 (R105); 0 in the register (R103). -/
def flagB (p : Byte) : Bool := p.getLsbD 4

/-- P.U, bit 5 (R105); 1 in the register (R103). -/
def flagU (p : Byte) : Bool := p.getLsbD 5

/-- P.V, bit 6 (R105). -/
def flagV (p : Byte) : Bool := p.getLsbD 6

/-- P.N, bit 7 (R105). -/
def flagN (p : Byte) : Bool := p.getLsbD 7

/-- `P.C <- b`. -/
def withC (p : Byte) (b : Bool) : Byte := setBit p 0 b

/-- `P.Z <- b`. -/
def withZ (p : Byte) (b : Bool) : Byte := setBit p 1 b

/-- `P.I <- b`. -/
def withI (p : Byte) (b : Bool) : Byte := setBit p 2 b

/-- `P.D <- b`. -/
def withD (p : Byte) (b : Bool) : Byte := setBit p 3 b

/-- `P.V <- b`. -/
def withV (p : Byte) (b : Bool) : Byte := setBit p 6 b

/-- `P.N <- b`. -/
def withN (p : Byte) (b : Bool) : Byte := setBit p 7 b

/-- `SetNZ(v)` on P (R16). -/
def nzOf (p v : Byte) : Byte := withN (withZ p (v == 0)) (v.getLsbD 7)

/-- `SetNZ(v)` (R16). -/
def State.setNZ (s : State) (v : Byte) : State := s.setP (nzOf s.cpu.p v)

/-- The carry flag as the number 0 or 1 (R601). -/
def carryIn (p : Byte) : Nat := if flagC p then 1 else 0

/-- The untruncated sum `A + m + P.C` (R601). -/
def addSum (p a m : Byte) : Nat := a.toNat + m.toNat + carryIn p

/-- Signed overflow: `(~(A ^ m) & (A ^ s))[7]` (R601). -/
def addOverflow (a m r : Byte) : Bool := (~~~(a ^^^ m) &&& (a ^^^ r)).getLsbD 7

/-- `AddWithCarry(m)` (R601). D plays no part (R107). -/
def State.addWithCarry (s : State) (m : Byte) : State :=
  let sum := addSum s.cpu.p s.cpu.a m
  let r : Byte := BitVec.ofNat 8 sum
  let p := withV (withC s.cpu.p (decide (0xFF < sum))) (addOverflow s.cpu.a m r)
  ((s.setP p).setA r).setNZ r

/-- The flags of `Compare(r, m)` (R602): C = no borrow, Z, N of the difference; V is not written. -/
def compareFlags (p r m : Byte) : Byte :=
  withN (withZ (withC p (decide (m.toNat ≤ r.toNat))) (r == m)) ((r - m).getLsbD 7)

/-- `Compare(r, m)` (R602). -/
def State.compare (s : State) (r m : Byte) : State := s.setP (compareFlags s.cpu.p r m)

/-- The flags of BIT (R623): Z of the AND, N and V from bits 7 and 6 of the operand. -/
def bitFlags (p a m : Byte) : Byte :=
  withV (withN (withZ p (a &&& m == 0)) (m.getLsbD 7)) (m.getLsbD 6)

/-- What a shift or rotate computes (R700): the result, from the operand and the old C, and the new C. `none` leaves
C alone (INC, DEC, DCP, ISB). -/
structure ShiftResult where
  value : Byte
  carry : Option Bool
  deriving DecidableEq, Repr

/-- ASL's function (R710). -/
def shiftLeft (v : Byte) (_c : Bool) : ShiftResult := ⟨v <<< 1, some (v.getLsbD 7)⟩

/-- LSR's function (R711). -/
def shiftRight (v : Byte) (_c : Bool) : ShiftResult := ⟨v >>> 1, some (v.getLsbD 0)⟩

/-- ROL's function (R712): the old C enters bit 0. -/
def rotateLeft (v : Byte) (c : Bool) : ShiftResult := ⟨(v <<< 1) ||| (if c then 0x01 else 0), some (v.getLsbD 7)⟩

/-- ROR's function (R713): the old C enters bit 7. -/
def rotateRight (v : Byte) (c : Bool) : ShiftResult := ⟨(v >>> 1) ||| (if c then 0x80 else 0), some (v.getLsbD 0)⟩

/-- INC's and ISB's function (R640, R725). -/
def increment (v : Byte) (_c : Bool) : ShiftResult := ⟨v + 1, none⟩

/-- DEC's and DCP's function (R641, R724). -/
def decrement (v : Byte) (_c : Bool) : ShiftResult := ⟨v - 1, none⟩

/-- P after the function of a read-modify-write wrote its carry. -/
def carryOut (p : Byte) (r : ShiftResult) : Byte :=
  match r.carry with
  | some c => withC p c
  | none => p

/-- P as pushed by PHP and BRK (R531, R834): B = 1, U = 1. -/
def pushedByInstruction (p : Byte) : Byte := p ||| 0x30

/-- P as pushed by NMI and IRQ entry (R1420): B = 0, U = 1. -/
def pushedByInterrupt (p : Byte) : Byte := (p &&& ~~~0x10) ||| 0x20

/-- P as PLP and RTI load it from a stack byte (R533, R833): B dropped, U forced to 1. -/
def pulledStatus (v : Byte) : Byte := (v &&& 0xCF) ||| 0x20

end Sys2Proof.Machine
end

