-- ==== Sys2Proof/Machine/Ops.lean ====
section
/-! DEFINITION. The named operations over memory and registers that instructions share: 16-bit reads, the stack,
taking an interrupt or trap and returning from it, the unknown-opcode fault, the cycle count. -/

namespace Sys2Proof.Machine

/-- `Read16(addr)` (R15): the low byte first, the high byte at `u16(addr + 1)`. -/
def State.read16 (s : State) (a : Word) : Word :=
  wordOf (s.busRead a) ((s.afterRead a).busRead (a + 1))

/-- The state after `Read16(addr)`. -/
def State.afterRead16 (s : State) (a : Word) : State := (s.afterRead a).afterRead (a + 1)

/-- The stack address `$0100 | SP` (R101). -/
def stackAddr (sp : Byte) : Word := wordOf sp 0x01

/-- `Push(v)` (R15): write at `$0100 | SP`, then decrement SP. -/
def State.push (s : State) (v : Byte) : State :=
  let s1 := s.busWrite (stackAddr s.cpu.sp) v
  s1.setSp (s1.cpu.sp - 1)

/-- The byte that `Pull()` returns (R15): SP is incremented first. -/
def State.pulled (s : State) : Byte := s.busRead (stackAddr (s.cpu.sp + 1))

/-- The state after `Pull()` (R15). -/
def State.afterPull (s : State) : State :=
  (s.setSp (s.cpu.sp + 1)).afterRead (stackAddr (s.cpu.sp + 1))

/-- `PushPC(a)` (R810): the high byte first. -/
def State.pushPc (s : State) (a : Word) : State := (s.push (hiByte a)).push (loByte a)

/-- The word that `PullPC()` returns (R810): the low byte first. -/
def State.pulledPc (s : State) : Word := wordOf s.pulled s.afterPull.pulled

/-- The state after `PullPC()` (R810). -/
def State.afterPullPc (s : State) : State := s.afterPull.afterPull

/-- The NMI vector (R203). -/
def nmiVector : Word := 0xFFFA

/-- The reset vector (R203). -/
def resetVector : Word := 0xFFFC

/-- The IRQ and BRK vector (R203). -/
def irqVector : Word := 0xFFFE

/-- TAKING A TRAP OR INTERRUPT (R834, R1420): push the return address and the given status byte, set I, and load PC
from the vector. -/
def State.enterHandler (s : State) (returnTo : Word) (status : Byte) (vector : Word) : State :=
  let s1 := (s.pushPc returnTo).push status
  let s2 := s1.setP (withI s1.cpu.p true)
  (s2.afterRead16 vector).setPc (s2.read16 vector)

/-- RETURN FROM AN INTERRUPT OR TRAP (R833, R1430): pull P, dropping B and forcing U, then PC. -/
def State.returnFromInterrupt (s : State) : State :=
  let s1 := s.afterPull.setP (pulledStatus s.pulled)
  s1.afterPullPc.setPc s1.pulledPc

/-- The two interrupts (R1410, R1415). -/
inductive InterruptKind where
  | nmi
  | irq
  deriving DecidableEq, Repr

/-- `InterruptEntry(kind)` (R1420): the saved P has B = 0, taking an NMI clears its latch, and it costs 7 cycles. -/
def State.interruptEntry (s : State) (kind : InterruptKind) : State :=
  let status := pushedByInterrupt s.cpu.p
  let s1 := match kind with
    | .nmi => { s.enterHandler s.cpu.pc status nmiVector with cpu.nmiPending := false }
    | .irq => s.enterHandler s.cpu.pc status irqVector
  { s1 with cpu.cycles := 7 }

/-- `raise UnknownOpcode(op)` (R16, R1401): `halted` is set and nothing else changes. -/
def State.raiseUnknownOpcode (s : State) : State := { s with cpu.halted := true }

/-- The cycle count of an instruction (R440): `cycles <- base + extra + dma_stall; dma_stall <- 0`. -/
def State.loadCycles (s : State) (base extra : Nat) : State :=
  { s with cpu.cycles := base + extra + s.cpu.dmaStall, cpu.dmaStall := 0 }

end Sys2Proof.Machine
end

