-- ==== Sys2Proof/Machine/Operands.lean ====
section
/-! DEFINITION. The addressing modes (spec/40_addressing_and_cycle.md R400-R411, R420-R422), and the shapes that
instructions share: reading an operand, storing, read-modify-write, implied, branch. Every shape starts from the
state in which PC already stands after the instruction's bytes (R102, R422). -/

namespace Sys2Proof.Machine

/-- A zero-page address (R404). -/
def zeroPage (b : Byte) : Word := b.setWidth 16

/-- The page of an address. -/
def samePage (a b : Word) : Bool := hiByte a == hiByte b

/-- The 16-bit pointer at `b` in page zero, its high byte at `u8(b + 1)` (R408, R409). -/
def State.zpPointer (s : State) (b : Byte) : Word :=
  wordOf (s.busRead (zeroPage b)) ((s.afterRead (zeroPage b)).busRead (zeroPage (b + 1)))

/-- The state after reading a zero-page pointer, low byte then high byte (R422). -/
def State.afterZpPointer (s : State) (b : Byte) : State :=
  (s.afterRead (zeroPage b)).afterRead (zeroPage (b + 1))

/-- The address before the index is added, for the modes that can cross a page (R407, R409). -/
def memBase (m : MemMode) (s : State) : Word :=
  match m with
  | .zp a => zeroPage a
  | .zpX a => zeroPage (a + s.cpu.x)
  | .zpY a => zeroPage (a + s.cpu.y)
  | .abs a | .absX a | .absY a => a
  | .izx a => s.zpPointer (a + s.cpu.x)
  | .izy a => s.zpPointer a

/-- The effective address (R404-R409). -/
def effAddr (m : MemMode) (s : State) : Word :=
  match m with
  | .absX _ => memBase m s + s.cpu.x.setWidth 16
  | .absY _ | .izy _ => memBase m s + s.cpu.y.setWidth 16
  | .zp _ | .zpX _ | .zpY _ | .abs _ | .izx _ => memBase m s

/-- `page_crossed` (R404-R409): only the abs,X, abs,Y and (zp),Y modes can report it. -/
def pageCrossed (m : MemMode) (s : State) : Bool := !samePage (effAddr m s) (memBase m s)

/-- The state after the mode's pointer reads (R408, R409, R422). -/
def afterMode (m : MemMode) (s : State) : State :=
  match m with
  | .izx a => s.afterZpPointer (a + s.cpu.x)
  | .izy a => s.afterZpPointer a
  | .zp _ | .zpX _ | .zpY _ | .abs _ | .absX _ | .absY _ => s

/-- What `Operand()` may read (R400): the fetched byte, or the byte at EA. -/
inductive Source where
  | imm (b : Byte)
  | mem (m : MemMode)
  deriving DecidableEq, Repr

/-- The value of `Operand()` (R400, R403). -/
def Source.value (o : Source) (s : State) : Byte :=
  match o with
  | .imm b => b
  | .mem m => (afterMode m s).busRead (effAddr m s)

/-- The state after `Operand()`: the mode's pointer reads, then one read of EA (R400, R422). -/
def Source.after (o : Source) (s : State) : State :=
  match o with
  | .imm _ => s
  | .mem m => (afterMode m s).afterRead (effAddr m s)

/-- Whether the operand's mode reports a page cross (R403-R409). -/
def Source.crossed (o : Source) (s : State) : Bool :=
  match o with
  | .imm _ => false
  | .mem m => pageCrossed m s

/-- One cycle when the row has the page-cross flag and the mode reports a cross (R420). -/
def penalty (flag crossed : Bool) : Nat := if flag && crossed then 1 else 0

/-- An instruction that reads one operand and acts on registers and flags (R400, R420). -/
def readShape (o : Source) (base : Nat) (flag : Bool) (f : State → Byte → State) (s : State) : Result :=
  .next ((f (o.after s) (o.value s)).loadCycles base (penalty flag (o.crossed s)))

/-- The state after a store of `v` at EA (R400): no read of EA, no penalty (R223, R420). -/
def storeAt (m : MemMode) (v : Byte) (s : State) : State := (afterMode m s).busWrite (effAddr m s) v

/-- An instruction that stores a register value (R400). -/
def storeShape (m : MemMode) (base : Nat) (v : State → Byte) (s : State) : Result :=
  .next ((storeAt m (v s) s).loadCycles base 0)

/-- What a read-modify-write works on (R700): A, or the byte at EA. -/
inductive Target where
  | acc
  | mem (m : MemMode)
  deriving DecidableEq, Repr

/-- The operand of a read-modify-write (R700). -/
def Target.value (o : Target) (s : State) : Byte :=
  match o with
  | .acc => s.cpu.a
  | .mem m => (afterMode m s).busRead (effAddr m s)

/-- The result of a read-modify-write's function on its operand and the C flag (R700). -/
def Target.result (o : Target) (f : Byte → Bool → ShiftResult) (s : State) : ShiftResult :=
  f (o.value s) (flagC s.cpu.p)

/-- `RMW(f)` (R700): A is replaced, or EA is read once and written twice, first the unmodified value and then the
result (R222); f's carry goes to C. -/
def Target.modify (o : Target) (f : Byte → Bool → ShiftResult) (s : State) : State :=
  let r := o.result f s
  let s1 := match o with
    | .acc => s.setA r.value
    | .mem m =>
      let ea := effAddr m s
      (((afterMode m s).afterRead ea).busWrite ea (o.value s)).busWrite ea r.value
  s1.setP (carryOut s1.cpu.p r)

/-- A read-modify-write instruction: `RMW(f)`, then `g` on the result (R700, R710-R725, R640, R641). -/
def rmwShape (o : Target) (base : Nat) (f : Byte → Bool → ShiftResult) (g : State → Byte → State) (s : State) : Result :=
  .next ((g (o.modify f s) (o.result f s).value).loadCycles base 0)

/-- An instruction of the implied format: only its effect and its base count (R401). -/
def impliedShape (base : Nat) (f : State → State) (s : State) : Result := .next ((f s).loadCycles base 0)

/-- `target` of a relative branch (R411): from the address of the next instruction. -/
def branchTarget (off : Byte) (s : State) : Word := s.cpu.pc + off.signExtend 16

/-- The extra cycles of a taken branch (R411, R421): one, and a second when the target is on another page than the
next instruction. -/
def branchExtra (off : Byte) (s : State) : Nat := if samePage (branchTarget off s) s.cpu.pc then 1 else 2

/-- A conditional branch (R815). -/
def branchShape (off : Byte) (base : Nat) (cond : Byte → Bool) (s : State) : Result :=
  if cond s.cpu.p then .next ((s.setPc (branchTarget off s)).loadCycles base (branchExtra off s))
  else .next (s.loadCycles base 0)

/-- The address in a pointer's page that holds the high byte of an indirect jump's target (R410). -/
def indirectHigh (ptr : Word) : Word := wordOf (loByte ptr + 1) (hiByte ptr)

/-- `(ind)` (R410): the high byte comes from the same page as the low byte. -/
def indirectTarget (ptr : Word) (s : State) : Word :=
  wordOf (s.busRead ptr) ((s.afterRead ptr).busRead (indirectHigh ptr))

/-- The state after the two reads of `(ind)` (R410). -/
def afterIndirect (ptr : Word) (s : State) : State := (s.afterRead ptr).afterRead (indirectHigh ptr)

end Sys2Proof.Machine
end

