-- ==== Sys2Proof/Machine/Arith.lean ====
section
/-! DEFINITION. Arithmetic, logic, compare and increment instructions (spec/42_arith_logic.md). -/

namespace Sys2Proof.Machine

/-- ADC (R610). -/
def opAdc (s : State) (v : Byte) : State := s.addWithCarry v

/-- SBC (R611): the addition of the complement. -/
def opSbc (s : State) (v : Byte) : State := s.addWithCarry (v ^^^ 0xFF)

/-- AND (R620). -/
def opAnd (s : State) (v : Byte) : State := (s.setA (s.cpu.a &&& v)).setNZ (s.cpu.a &&& v)

/-- ORA (R621). -/
def opOra (s : State) (v : Byte) : State := (s.setA (s.cpu.a ||| v)).setNZ (s.cpu.a ||| v)

/-- EOR (R622). -/
def opEor (s : State) (v : Byte) : State := (s.setA (s.cpu.a ^^^ v)).setNZ (s.cpu.a ^^^ v)

/-- BIT (R623): A is unchanged. -/
def opBit (s : State) (v : Byte) : State := s.setP (bitFlags s.cpu.p s.cpu.a v)

/-- CMP (R630). -/
def opCmp (s : State) (v : Byte) : State := s.compare s.cpu.a v

/-- CPX (R631). -/
def opCpx (s : State) (v : Byte) : State := s.compare s.cpu.x v

/-- CPY (R632). -/
def opCpy (s : State) (v : Byte) : State := s.compare s.cpu.y v

/-- INX (R642). -/
def opInx (s : State) : State := (s.setX (s.cpu.x + 1)).setNZ (s.cpu.x + 1)

/-- INY (R643). -/
def opIny (s : State) : State := (s.setY (s.cpu.y + 1)).setNZ (s.cpu.y + 1)

/-- DEX (R644). -/
def opDex (s : State) : State := (s.setX (s.cpu.x - 1)).setNZ (s.cpu.x - 1)

/-- DEY (R645). -/
def opDey (s : State) : State := (s.setY (s.cpu.y - 1)).setNZ (s.cpu.y - 1)


/-- $61 ADC (zp,X) (R610). -/
def execAdcIzx (a : Byte) (s : State) : Result := readShape (.mem (.izx a)) 6 false opAdc s

/-- $65 ADC zp (R610). -/
def execAdcZp (a : Byte) (s : State) : Result := readShape (.mem (.zp a)) 3 false opAdc s

/-- $69 ADC # (R610). -/
def execAdcImm (a : Byte) (s : State) : Result := readShape (.imm a) 2 false opAdc s

/-- $6D ADC abs (R610). -/
def execAdcAbs (a : Word) (s : State) : Result := readShape (.mem (.abs a)) 4 false opAdc s

/-- $71 ADC (zp),Y (R610). -/
def execAdcIzy (a : Byte) (s : State) : Result := readShape (.mem (.izy a)) 5 true opAdc s

/-- $75 ADC zp,X (R610). -/
def execAdcZpx (a : Byte) (s : State) : Result := readShape (.mem (.zpX a)) 4 false opAdc s

/-- $79 ADC abs,Y (R610). -/
def execAdcAbsy (a : Word) (s : State) : Result := readShape (.mem (.absY a)) 4 true opAdc s

/-- $7D ADC abs,X (R610). -/
def execAdcAbsx (a : Word) (s : State) : Result := readShape (.mem (.absX a)) 4 true opAdc s

/-- $E1 SBC (zp,X) (R611). -/
def execSbcIzx (a : Byte) (s : State) : Result := readShape (.mem (.izx a)) 6 false opSbc s

/-- $E5 SBC zp (R611). -/
def execSbcZp (a : Byte) (s : State) : Result := readShape (.mem (.zp a)) 3 false opSbc s

/-- $E9 SBC # (R611). -/
def execSbcImm (a : Byte) (s : State) : Result := readShape (.imm a) 2 false opSbc s

/-- $EB SBC # (R611, unofficial). -/
def execSbcImmEB (a : Byte) (s : State) : Result := readShape (.imm a) 2 false opSbc s

/-- $ED SBC abs (R611). -/
def execSbcAbs (a : Word) (s : State) : Result := readShape (.mem (.abs a)) 4 false opSbc s

/-- $F1 SBC (zp),Y (R611). -/
def execSbcIzy (a : Byte) (s : State) : Result := readShape (.mem (.izy a)) 5 true opSbc s

/-- $F5 SBC zp,X (R611). -/
def execSbcZpx (a : Byte) (s : State) : Result := readShape (.mem (.zpX a)) 4 false opSbc s

/-- $F9 SBC abs,Y (R611). -/
def execSbcAbsy (a : Word) (s : State) : Result := readShape (.mem (.absY a)) 4 true opSbc s

/-- $FD SBC abs,X (R611). -/
def execSbcAbsx (a : Word) (s : State) : Result := readShape (.mem (.absX a)) 4 true opSbc s

/-- $21 AND (zp,X) (R620). -/
def execAndIzx (a : Byte) (s : State) : Result := readShape (.mem (.izx a)) 6 false opAnd s

/-- $25 AND zp (R620). -/
def execAndZp (a : Byte) (s : State) : Result := readShape (.mem (.zp a)) 3 false opAnd s

/-- $29 AND # (R620). -/
def execAndImm (a : Byte) (s : State) : Result := readShape (.imm a) 2 false opAnd s

/-- $2D AND abs (R620). -/
def execAndAbs (a : Word) (s : State) : Result := readShape (.mem (.abs a)) 4 false opAnd s

/-- $31 AND (zp),Y (R620). -/
def execAndIzy (a : Byte) (s : State) : Result := readShape (.mem (.izy a)) 5 true opAnd s

/-- $35 AND zp,X (R620). -/
def execAndZpx (a : Byte) (s : State) : Result := readShape (.mem (.zpX a)) 4 false opAnd s

/-- $39 AND abs,Y (R620). -/
def execAndAbsy (a : Word) (s : State) : Result := readShape (.mem (.absY a)) 4 true opAnd s

/-- $3D AND abs,X (R620). -/
def execAndAbsx (a : Word) (s : State) : Result := readShape (.mem (.absX a)) 4 true opAnd s

/-- $01 ORA (zp,X) (R621). -/
def execOraIzx (a : Byte) (s : State) : Result := readShape (.mem (.izx a)) 6 false opOra s

/-- $05 ORA zp (R621). -/
def execOraZp (a : Byte) (s : State) : Result := readShape (.mem (.zp a)) 3 false opOra s

/-- $09 ORA # (R621). -/
def execOraImm (a : Byte) (s : State) : Result := readShape (.imm a) 2 false opOra s

/-- $0D ORA abs (R621). -/
def execOraAbs (a : Word) (s : State) : Result := readShape (.mem (.abs a)) 4 false opOra s

/-- $11 ORA (zp),Y (R621). -/
def execOraIzy (a : Byte) (s : State) : Result := readShape (.mem (.izy a)) 5 true opOra s

/-- $15 ORA zp,X (R621). -/
def execOraZpx (a : Byte) (s : State) : Result := readShape (.mem (.zpX a)) 4 false opOra s

/-- $19 ORA abs,Y (R621). -/
def execOraAbsy (a : Word) (s : State) : Result := readShape (.mem (.absY a)) 4 true opOra s

/-- $1D ORA abs,X (R621). -/
def execOraAbsx (a : Word) (s : State) : Result := readShape (.mem (.absX a)) 4 true opOra s

/-- $41 EOR (zp,X) (R622). -/
def execEorIzx (a : Byte) (s : State) : Result := readShape (.mem (.izx a)) 6 false opEor s

/-- $45 EOR zp (R622). -/
def execEorZp (a : Byte) (s : State) : Result := readShape (.mem (.zp a)) 3 false opEor s

/-- $49 EOR # (R622). -/
def execEorImm (a : Byte) (s : State) : Result := readShape (.imm a) 2 false opEor s

/-- $4D EOR abs (R622). -/
def execEorAbs (a : Word) (s : State) : Result := readShape (.mem (.abs a)) 4 false opEor s

/-- $51 EOR (zp),Y (R622). -/
def execEorIzy (a : Byte) (s : State) : Result := readShape (.mem (.izy a)) 5 true opEor s

/-- $55 EOR zp,X (R622). -/
def execEorZpx (a : Byte) (s : State) : Result := readShape (.mem (.zpX a)) 4 false opEor s

/-- $59 EOR abs,Y (R622). -/
def execEorAbsy (a : Word) (s : State) : Result := readShape (.mem (.absY a)) 4 true opEor s

/-- $5D EOR abs,X (R622). -/
def execEorAbsx (a : Word) (s : State) : Result := readShape (.mem (.absX a)) 4 true opEor s

/-- $24 BIT zp (R623). -/
def execBitZp (a : Byte) (s : State) : Result := readShape (.mem (.zp a)) 3 false opBit s

/-- $2C BIT abs (R623). -/
def execBitAbs (a : Word) (s : State) : Result := readShape (.mem (.abs a)) 4 false opBit s

/-- $C1 CMP (zp,X) (R630). -/
def execCmpIzx (a : Byte) (s : State) : Result := readShape (.mem (.izx a)) 6 false opCmp s

/-- $C5 CMP zp (R630). -/
def execCmpZp (a : Byte) (s : State) : Result := readShape (.mem (.zp a)) 3 false opCmp s

/-- $C9 CMP # (R630). -/
def execCmpImm (a : Byte) (s : State) : Result := readShape (.imm a) 2 false opCmp s

/-- $CD CMP abs (R630). -/
def execCmpAbs (a : Word) (s : State) : Result := readShape (.mem (.abs a)) 4 false opCmp s

/-- $D1 CMP (zp),Y (R630). -/
def execCmpIzy (a : Byte) (s : State) : Result := readShape (.mem (.izy a)) 5 true opCmp s

/-- $D5 CMP zp,X (R630). -/
def execCmpZpx (a : Byte) (s : State) : Result := readShape (.mem (.zpX a)) 4 false opCmp s

/-- $D9 CMP abs,Y (R630). -/
def execCmpAbsy (a : Word) (s : State) : Result := readShape (.mem (.absY a)) 4 true opCmp s

/-- $DD CMP abs,X (R630). -/
def execCmpAbsx (a : Word) (s : State) : Result := readShape (.mem (.absX a)) 4 true opCmp s

/-- $E0 CPX # (R631). -/
def execCpxImm (a : Byte) (s : State) : Result := readShape (.imm a) 2 false opCpx s

/-- $E4 CPX zp (R631). -/
def execCpxZp (a : Byte) (s : State) : Result := readShape (.mem (.zp a)) 3 false opCpx s

/-- $EC CPX abs (R631). -/
def execCpxAbs (a : Word) (s : State) : Result := readShape (.mem (.abs a)) 4 false opCpx s

/-- $C0 CPY # (R632). -/
def execCpyImm (a : Byte) (s : State) : Result := readShape (.imm a) 2 false opCpy s

/-- $C4 CPY zp (R632). -/
def execCpyZp (a : Byte) (s : State) : Result := readShape (.mem (.zp a)) 3 false opCpy s

/-- $CC CPY abs (R632). -/
def execCpyAbs (a : Word) (s : State) : Result := readShape (.mem (.abs a)) 4 false opCpy s

/-- $E6 INC zp (R640). -/
def execIncZp (a : Byte) (s : State) : Result := rmwShape (.mem (.zp a)) 5 increment State.setNZ s

/-- $EE INC abs (R640). -/
def execIncAbs (a : Word) (s : State) : Result := rmwShape (.mem (.abs a)) 6 increment State.setNZ s

/-- $F6 INC zp,X (R640). -/
def execIncZpx (a : Byte) (s : State) : Result := rmwShape (.mem (.zpX a)) 6 increment State.setNZ s

/-- $FE INC abs,X (R640). -/
def execIncAbsx (a : Word) (s : State) : Result := rmwShape (.mem (.absX a)) 7 increment State.setNZ s

/-- $C6 DEC zp (R641). -/
def execDecZp (a : Byte) (s : State) : Result := rmwShape (.mem (.zp a)) 5 decrement State.setNZ s

/-- $CE DEC abs (R641). -/
def execDecAbs (a : Word) (s : State) : Result := rmwShape (.mem (.abs a)) 6 decrement State.setNZ s

/-- $D6 DEC zp,X (R641). -/
def execDecZpx (a : Byte) (s : State) : Result := rmwShape (.mem (.zpX a)) 6 decrement State.setNZ s

/-- $DE DEC abs,X (R641). -/
def execDecAbsx (a : Word) (s : State) : Result := rmwShape (.mem (.absX a)) 7 decrement State.setNZ s

/-- $E8 INX (R642). -/
def execInx (s : State) : Result := impliedShape 2 opInx s

/-- $C8 INY (R643). -/
def execIny (s : State) : Result := impliedShape 2 opIny s

/-- $CA DEX (R644). -/
def execDex (s : State) : Result := impliedShape 2 opDex s

/-- $88 DEY (R645). -/
def execDey (s : State) : Result := impliedShape 2 opDey s

end Sys2Proof.Machine
end

