-- ==== Sys2Proof/Machine/Control.lean ====
section
/-! DEFINITION. Control transfer (spec/44_control_flow.md). -/

namespace Sys2Proof.Machine

/-- BPL (R820). -/
def condPl (p : Byte) : Bool := !flagN p

/-- BMI (R821). -/
def condMi (p : Byte) : Bool := flagN p

/-- BVC (R822). -/
def condVc (p : Byte) : Bool := !flagV p

/-- BVS (R823). -/
def condVs (p : Byte) : Bool := flagV p

/-- BCC (R824). -/
def condCc (p : Byte) : Bool := !flagC p

/-- BCS (R825). -/
def condCs (p : Byte) : Bool := flagC p

/-- BNE (R826). -/
def condNe (p : Byte) : Bool := !flagZ p

/-- BEQ (R827). -/
def condEq (p : Byte) : Bool := flagZ p

/-- JMP abs (R830). -/
def opJmp (a : Word) (s : State) : State := s.setPc a

/-- JMP (ind) (R830, R410). -/
def opJmpInd (a : Word) (s : State) : State := (afterIndirect a s).setPc (indirectTarget a s)

/-- JSR (R831): the address of its last byte is pushed; its operand was fetched before. -/
def opJsr (a : Word) (s : State) : State := (s.pushPc (s.cpu.pc - 1)).setPc a

/-- RTS (R832). -/
def opRts (s : State) : State := s.afterPullPc.setPc (s.pulledPc + 1)

/-- RTI (R833). -/
def opRti (s : State) : State := s.returnFromInterrupt

/-- BRK (R834, R1421): PC passes the padding byte; the pushed status has B = 1 and U = 1. -/
def opBrk (s : State) : State :=
  s.enterHandler (s.cpu.pc + 1) (pushedByInstruction s.cpu.p) irqVector


/-- $10 BPL rel (R820). -/
def execBpl (a : Byte) (s : State) : Result := branchShape a 2 condPl s

/-- $30 BMI rel (R821). -/
def execBmi (a : Byte) (s : State) : Result := branchShape a 2 condMi s

/-- $50 BVC rel (R822). -/
def execBvc (a : Byte) (s : State) : Result := branchShape a 2 condVc s

/-- $70 BVS rel (R823). -/
def execBvs (a : Byte) (s : State) : Result := branchShape a 2 condVs s

/-- $90 BCC rel (R824). -/
def execBcc (a : Byte) (s : State) : Result := branchShape a 2 condCc s

/-- $B0 BCS rel (R825). -/
def execBcs (a : Byte) (s : State) : Result := branchShape a 2 condCs s

/-- $D0 BNE rel (R826). -/
def execBne (a : Byte) (s : State) : Result := branchShape a 2 condNe s

/-- $F0 BEQ rel (R827). -/
def execBeq (a : Byte) (s : State) : Result := branchShape a 2 condEq s

/-- $4C JMP abs (R830). -/
def execJmpAbs (a : Word) (s : State) : Result := impliedShape 3 (opJmp a) s

/-- $6C JMP (ind) (R830). -/
def execJmpInd (a : Word) (s : State) : Result := impliedShape 5 (opJmpInd a) s

/-- $20 JSR abs (R831). -/
def execJsr (a : Word) (s : State) : Result := impliedShape 6 (opJsr a) s

/-- $60 RTS (R832). -/
def execRts (s : State) : Result := impliedShape 6 opRts s

/-- $40 RTI (R833). -/
def execRti (s : State) : Result := impliedShape 6 opRti s

/-- $00 BRK (R834). -/
def execBrk (s : State) : Result := impliedShape 7 opBrk s

end Sys2Proof.Machine
end

