-- ==== Sys2Proof/Machine/FlagsNop.lean ====
section
/-! DEFINITION. Flag instructions and no-operations (spec/45_flags_nop.md). -/

namespace Sys2Proof.Machine

/-- CLC (R910). -/
def opClc (s : State) : State := s.setP (withC s.cpu.p false)

/-- SEC (R911). -/
def opSec (s : State) : State := s.setP (withC s.cpu.p true)

/-- CLI (R912). -/
def opCli (s : State) : State := s.setP (withI s.cpu.p false)

/-- SEI (R913). -/
def opSei (s : State) : State := s.setP (withI s.cpu.p true)

/-- CLV (R914). -/
def opClv (s : State) : State := s.setP (withV s.cpu.p false)

/-- CLD (R915). -/
def opCld (s : State) : State := s.setP (withD s.cpu.p false)

/-- SED (R916). -/
def opSed (s : State) : State := s.setP (withD s.cpu.p true)

/-- NOP, implied forms (R920). -/
def opNop (s : State) : State := s

/-- NOP with an operand (R921): the operand is read and its value discarded. -/
def opNopRead (s : State) (_v : Byte) : State := s


/-- $18 CLC (R910). -/
def execClc (s : State) : Result := impliedShape 2 opClc s

/-- $38 SEC (R911). -/
def execSec (s : State) : Result := impliedShape 2 opSec s

/-- $58 CLI (R912). -/
def execCli (s : State) : Result := impliedShape 2 opCli s

/-- $78 SEI (R913). -/
def execSei (s : State) : Result := impliedShape 2 opSei s

/-- $B8 CLV (R914). -/
def execClv (s : State) : Result := impliedShape 2 opClv s

/-- $D8 CLD (R915). -/
def execCld (s : State) : Result := impliedShape 2 opCld s

/-- $F8 SED (R916). -/
def execSed (s : State) : Result := impliedShape 2 opSed s

/-- $04 NOP zp (R921, unofficial). -/
def execNopZp04 (a : Byte) (s : State) : Result := readShape (.mem (.zp a)) 3 false opNopRead s

/-- $0C NOP abs (R921, unofficial). -/
def execNopAbs0C (a : Word) (s : State) : Result := readShape (.mem (.abs a)) 4 false opNopRead s

/-- $14 NOP zp,X (R921, unofficial). -/
def execNopZpx14 (a : Byte) (s : State) : Result := readShape (.mem (.zpX a)) 4 false opNopRead s

/-- $1A NOP (R920, unofficial). -/
def execNopImp1A (s : State) : Result := impliedShape 2 opNop s

/-- $1C NOP abs,X (R921, unofficial). -/
def execNopAbsx1C (a : Word) (s : State) : Result := readShape (.mem (.absX a)) 4 true opNopRead s

/-- $34 NOP zp,X (R921, unofficial). -/
def execNopZpx34 (a : Byte) (s : State) : Result := readShape (.mem (.zpX a)) 4 false opNopRead s

/-- $3A NOP (R920, unofficial). -/
def execNopImp3A (s : State) : Result := impliedShape 2 opNop s

/-- $3C NOP abs,X (R921, unofficial). -/
def execNopAbsx3C (a : Word) (s : State) : Result := readShape (.mem (.absX a)) 4 true opNopRead s

/-- $44 NOP zp (R921, unofficial). -/
def execNopZp44 (a : Byte) (s : State) : Result := readShape (.mem (.zp a)) 3 false opNopRead s

/-- $54 NOP zp,X (R921, unofficial). -/
def execNopZpx54 (a : Byte) (s : State) : Result := readShape (.mem (.zpX a)) 4 false opNopRead s

/-- $5A NOP (R920, unofficial). -/
def execNopImp5A (s : State) : Result := impliedShape 2 opNop s

/-- $5C NOP abs,X (R921, unofficial). -/
def execNopAbsx5C (a : Word) (s : State) : Result := readShape (.mem (.absX a)) 4 true opNopRead s

/-- $64 NOP zp (R921, unofficial). -/
def execNopZp64 (a : Byte) (s : State) : Result := readShape (.mem (.zp a)) 3 false opNopRead s

/-- $74 NOP zp,X (R921, unofficial). -/
def execNopZpx74 (a : Byte) (s : State) : Result := readShape (.mem (.zpX a)) 4 false opNopRead s

/-- $7A NOP (R920, unofficial). -/
def execNopImp7A (s : State) : Result := impliedShape 2 opNop s

/-- $7C NOP abs,X (R921, unofficial). -/
def execNopAbsx7C (a : Word) (s : State) : Result := readShape (.mem (.absX a)) 4 true opNopRead s

/-- $80 NOP # (R921, unofficial). -/
def execNopImm80 (a : Byte) (s : State) : Result := readShape (.imm a) 2 false opNopRead s

/-- $D4 NOP zp,X (R921, unofficial). -/
def execNopZpxD4 (a : Byte) (s : State) : Result := readShape (.mem (.zpX a)) 4 false opNopRead s

/-- $DA NOP (R920, unofficial). -/
def execNopImpDA (s : State) : Result := impliedShape 2 opNop s

/-- $DC NOP abs,X (R921, unofficial). -/
def execNopAbsxDC (a : Word) (s : State) : Result := readShape (.mem (.absX a)) 4 true opNopRead s

/-- $EA NOP (R920). -/
def execNopImp (s : State) : Result := impliedShape 2 opNop s

/-- $F4 NOP zp,X (R921, unofficial). -/
def execNopZpxF4 (a : Byte) (s : State) : Result := readShape (.mem (.zpX a)) 4 false opNopRead s

/-- $FA NOP (R920, unofficial). -/
def execNopImpFA (s : State) : Result := impliedShape 2 opNop s

/-- $FC NOP abs,X (R921, unofficial). -/
def execNopAbsxFC (a : Word) (s : State) : Result := readShape (.mem (.absX a)) 4 true opNopRead s

end Sys2Proof.Machine
end

