-- ==== Sys2Proof/Machine/LoadStore.lean ====
section
/-! DEFINITION. Loads, stores, transfers and stack instructions (spec/41_load_store_transfer.md). -/

namespace Sys2Proof.Machine

/-- LDA (R510): A and N, Z. -/
def opLda (s : State) (v : Byte) : State := (s.setA v).setNZ v

/-- LDX (R511): X and N, Z. -/
def opLdx (s : State) (v : Byte) : State := (s.setX v).setNZ v

/-- LDY (R512): Y and N, Z. -/
def opLdy (s : State) (v : Byte) : State := (s.setY v).setNZ v

/-- LAX (R516): A, X and N, Z. -/
def opLax (s : State) (v : Byte) : State := ((s.setA v).setX v).setNZ v

/-- What STA stores (R513). -/
def State.valA (s : State) : Byte := s.cpu.a

/-- What STX stores (R514). -/
def State.valX (s : State) : Byte := s.cpu.x

/-- What STY stores (R515). -/
def State.valY (s : State) : Byte := s.cpu.y

/-- What SAX stores (R517). -/
def State.valAX (s : State) : Byte := s.cpu.a &&& s.cpu.x

/-- TAX (R520). -/
def opTax (s : State) : State := (s.setX s.cpu.a).setNZ s.cpu.a

/-- TAY (R521). -/
def opTay (s : State) : State := (s.setY s.cpu.a).setNZ s.cpu.a

/-- TXA (R522). -/
def opTxa (s : State) : State := (s.setA s.cpu.x).setNZ s.cpu.x

/-- TYA (R523). -/
def opTya (s : State) : State := (s.setA s.cpu.y).setNZ s.cpu.y

/-- TSX (R524). -/
def opTsx (s : State) : State := (s.setX s.cpu.sp).setNZ s.cpu.sp

/-- TXS (R525): no flag is written. -/
def opTxs (s : State) : State := s.setSp s.cpu.x

/-- PHA (R530). -/
def opPha (s : State) : State := s.push s.cpu.a

/-- PHP (R531): the pushed byte has B = 1 and U = 1, P is unchanged. -/
def opPhp (s : State) : State := s.push (pushedByInstruction s.cpu.p)

/-- PLA (R532). -/
def opPla (s : State) : State := (s.afterPull.setA s.pulled).setNZ s.pulled

/-- PLP (R533). -/
def opPlp (s : State) : State := s.afterPull.setP (pulledStatus s.pulled)


/-- $A1 LDA (zp,X) (R510). -/
def execLdaIzx (a : Byte) (s : State) : Result := readShape (.mem (.izx a)) 6 false opLda s

/-- $A5 LDA zp (R510). -/
def execLdaZp (a : Byte) (s : State) : Result := readShape (.mem (.zp a)) 3 false opLda s

/-- $A9 LDA # (R510). -/
def execLdaImm (a : Byte) (s : State) : Result := readShape (.imm a) 2 false opLda s

/-- $AD LDA abs (R510). -/
def execLdaAbs (a : Word) (s : State) : Result := readShape (.mem (.abs a)) 4 false opLda s

/-- $B1 LDA (zp),Y (R510). -/
def execLdaIzy (a : Byte) (s : State) : Result := readShape (.mem (.izy a)) 5 true opLda s

/-- $B5 LDA zp,X (R510). -/
def execLdaZpx (a : Byte) (s : State) : Result := readShape (.mem (.zpX a)) 4 false opLda s

/-- $B9 LDA abs,Y (R510). -/
def execLdaAbsy (a : Word) (s : State) : Result := readShape (.mem (.absY a)) 4 true opLda s

/-- $BD LDA abs,X (R510). -/
def execLdaAbsx (a : Word) (s : State) : Result := readShape (.mem (.absX a)) 4 true opLda s

/-- $A2 LDX # (R511). -/
def execLdxImm (a : Byte) (s : State) : Result := readShape (.imm a) 2 false opLdx s

/-- $A6 LDX zp (R511). -/
def execLdxZp (a : Byte) (s : State) : Result := readShape (.mem (.zp a)) 3 false opLdx s

/-- $AE LDX abs (R511). -/
def execLdxAbs (a : Word) (s : State) : Result := readShape (.mem (.abs a)) 4 false opLdx s

/-- $B6 LDX zp,Y (R511). -/
def execLdxZpy (a : Byte) (s : State) : Result := readShape (.mem (.zpY a)) 4 false opLdx s

/-- $BE LDX abs,Y (R511). -/
def execLdxAbsy (a : Word) (s : State) : Result := readShape (.mem (.absY a)) 4 true opLdx s

/-- $A0 LDY # (R512). -/
def execLdyImm (a : Byte) (s : State) : Result := readShape (.imm a) 2 false opLdy s

/-- $A4 LDY zp (R512). -/
def execLdyZp (a : Byte) (s : State) : Result := readShape (.mem (.zp a)) 3 false opLdy s

/-- $AC LDY abs (R512). -/
def execLdyAbs (a : Word) (s : State) : Result := readShape (.mem (.abs a)) 4 false opLdy s

/-- $B4 LDY zp,X (R512). -/
def execLdyZpx (a : Byte) (s : State) : Result := readShape (.mem (.zpX a)) 4 false opLdy s

/-- $BC LDY abs,X (R512). -/
def execLdyAbsx (a : Word) (s : State) : Result := readShape (.mem (.absX a)) 4 true opLdy s

/-- $A3 LAX (zp,X) (R516, unofficial). -/
def execLaxIzx (a : Byte) (s : State) : Result := readShape (.mem (.izx a)) 6 false opLax s

/-- $A7 LAX zp (R516, unofficial). -/
def execLaxZp (a : Byte) (s : State) : Result := readShape (.mem (.zp a)) 3 false opLax s

/-- $AF LAX abs (R516, unofficial). -/
def execLaxAbs (a : Word) (s : State) : Result := readShape (.mem (.abs a)) 4 false opLax s

/-- $B3 LAX (zp),Y (R516, unofficial). -/
def execLaxIzy (a : Byte) (s : State) : Result := readShape (.mem (.izy a)) 5 true opLax s

/-- $B7 LAX zp,Y (R516, unofficial). -/
def execLaxZpy (a : Byte) (s : State) : Result := readShape (.mem (.zpY a)) 4 false opLax s

/-- $BF LAX abs,Y (R516, unofficial). -/
def execLaxAbsy (a : Word) (s : State) : Result := readShape (.mem (.absY a)) 4 true opLax s

/-- $81 STA (zp,X) (R513). -/
def execStaIzx (a : Byte) (s : State) : Result := storeShape (.izx a) 6 State.valA s

/-- $85 STA zp (R513). -/
def execStaZp (a : Byte) (s : State) : Result := storeShape (.zp a) 3 State.valA s

/-- $8D STA abs (R513). -/
def execStaAbs (a : Word) (s : State) : Result := storeShape (.abs a) 4 State.valA s

/-- $91 STA (zp),Y (R513). -/
def execStaIzy (a : Byte) (s : State) : Result := storeShape (.izy a) 6 State.valA s

/-- $95 STA zp,X (R513). -/
def execStaZpx (a : Byte) (s : State) : Result := storeShape (.zpX a) 4 State.valA s

/-- $99 STA abs,Y (R513). -/
def execStaAbsy (a : Word) (s : State) : Result := storeShape (.absY a) 5 State.valA s

/-- $9D STA abs,X (R513). -/
def execStaAbsx (a : Word) (s : State) : Result := storeShape (.absX a) 5 State.valA s

/-- $86 STX zp (R514). -/
def execStxZp (a : Byte) (s : State) : Result := storeShape (.zp a) 3 State.valX s

/-- $8E STX abs (R514). -/
def execStxAbs (a : Word) (s : State) : Result := storeShape (.abs a) 4 State.valX s

/-- $96 STX zp,Y (R514). -/
def execStxZpy (a : Byte) (s : State) : Result := storeShape (.zpY a) 4 State.valX s

/-- $84 STY zp (R515). -/
def execStyZp (a : Byte) (s : State) : Result := storeShape (.zp a) 3 State.valY s

/-- $8C STY abs (R515). -/
def execStyAbs (a : Word) (s : State) : Result := storeShape (.abs a) 4 State.valY s

/-- $94 STY zp,X (R515). -/
def execStyZpx (a : Byte) (s : State) : Result := storeShape (.zpX a) 4 State.valY s

/-- $83 SAX (zp,X) (R517, unofficial). -/
def execSaxIzx (a : Byte) (s : State) : Result := storeShape (.izx a) 6 State.valAX s

/-- $87 SAX zp (R517, unofficial). -/
def execSaxZp (a : Byte) (s : State) : Result := storeShape (.zp a) 3 State.valAX s

/-- $8F SAX abs (R517, unofficial). -/
def execSaxAbs (a : Word) (s : State) : Result := storeShape (.abs a) 4 State.valAX s

/-- $97 SAX zp,Y (R517, unofficial). -/
def execSaxZpy (a : Byte) (s : State) : Result := storeShape (.zpY a) 4 State.valAX s

/-- $AA TAX (R520). -/
def execTax (s : State) : Result := impliedShape 2 opTax s

/-- $A8 TAY (R521). -/
def execTay (s : State) : Result := impliedShape 2 opTay s

/-- $8A TXA (R522). -/
def execTxa (s : State) : Result := impliedShape 2 opTxa s

/-- $98 TYA (R523). -/
def execTya (s : State) : Result := impliedShape 2 opTya s

/-- $BA TSX (R524). -/
def execTsx (s : State) : Result := impliedShape 2 opTsx s

/-- $9A TXS (R525). -/
def execTxs (s : State) : Result := impliedShape 2 opTxs s

/-- $48 PHA (R530). -/
def execPha (s : State) : Result := impliedShape 3 opPha s

/-- $08 PHP (R531). -/
def execPhp (s : State) : Result := impliedShape 3 opPhp s

/-- $68 PLA (R532). -/
def execPla (s : State) : Result := impliedShape 4 opPla s

/-- $28 PLP (R533). -/
def execPlp (s : State) : Result := impliedShape 4 opPlp s

end Sys2Proof.Machine
end

