-- ==== Sys2Proof/Machine/Shift.lean ====
section
/-! DEFINITION. Shifts, rotates and the combined read-modify-write instructions (spec/43_shift_rmw.md). Each is `RMW(f)` with its
function `f` (Machine/Flags.lean) and then `SetNZ`, or the second half of the combined instruction. -/

namespace Sys2Proof.Machine


/-- $06 ASL zp (R710). -/
def execAslZp (a : Byte) (s : State) : Result := rmwShape (.mem (.zp a)) 5 shiftLeft State.setNZ s

/-- $0A ASL A (R710). -/
def execAslAcc (s : State) : Result := rmwShape .acc 2 shiftLeft State.setNZ s

/-- $0E ASL abs (R710). -/
def execAslAbs (a : Word) (s : State) : Result := rmwShape (.mem (.abs a)) 6 shiftLeft State.setNZ s

/-- $16 ASL zp,X (R710). -/
def execAslZpx (a : Byte) (s : State) : Result := rmwShape (.mem (.zpX a)) 6 shiftLeft State.setNZ s

/-- $1E ASL abs,X (R710). -/
def execAslAbsx (a : Word) (s : State) : Result := rmwShape (.mem (.absX a)) 7 shiftLeft State.setNZ s

/-- $46 LSR zp (R711). -/
def execLsrZp (a : Byte) (s : State) : Result := rmwShape (.mem (.zp a)) 5 shiftRight State.setNZ s

/-- $4A LSR A (R711). -/
def execLsrAcc (s : State) : Result := rmwShape .acc 2 shiftRight State.setNZ s

/-- $4E LSR abs (R711). -/
def execLsrAbs (a : Word) (s : State) : Result := rmwShape (.mem (.abs a)) 6 shiftRight State.setNZ s

/-- $56 LSR zp,X (R711). -/
def execLsrZpx (a : Byte) (s : State) : Result := rmwShape (.mem (.zpX a)) 6 shiftRight State.setNZ s

/-- $5E LSR abs,X (R711). -/
def execLsrAbsx (a : Word) (s : State) : Result := rmwShape (.mem (.absX a)) 7 shiftRight State.setNZ s

/-- $26 ROL zp (R712). -/
def execRolZp (a : Byte) (s : State) : Result := rmwShape (.mem (.zp a)) 5 rotateLeft State.setNZ s

/-- $2A ROL A (R712). -/
def execRolAcc (s : State) : Result := rmwShape .acc 2 rotateLeft State.setNZ s

/-- $2E ROL abs (R712). -/
def execRolAbs (a : Word) (s : State) : Result := rmwShape (.mem (.abs a)) 6 rotateLeft State.setNZ s

/-- $36 ROL zp,X (R712). -/
def execRolZpx (a : Byte) (s : State) : Result := rmwShape (.mem (.zpX a)) 6 rotateLeft State.setNZ s

/-- $3E ROL abs,X (R712). -/
def execRolAbsx (a : Word) (s : State) : Result := rmwShape (.mem (.absX a)) 7 rotateLeft State.setNZ s

/-- $66 ROR zp (R713). -/
def execRorZp (a : Byte) (s : State) : Result := rmwShape (.mem (.zp a)) 5 rotateRight State.setNZ s

/-- $6A ROR A (R713). -/
def execRorAcc (s : State) : Result := rmwShape .acc 2 rotateRight State.setNZ s

/-- $6E ROR abs (R713). -/
def execRorAbs (a : Word) (s : State) : Result := rmwShape (.mem (.abs a)) 6 rotateRight State.setNZ s

/-- $76 ROR zp,X (R713). -/
def execRorZpx (a : Byte) (s : State) : Result := rmwShape (.mem (.zpX a)) 6 rotateRight State.setNZ s

/-- $7E ROR abs,X (R713). -/
def execRorAbsx (a : Word) (s : State) : Result := rmwShape (.mem (.absX a)) 7 rotateRight State.setNZ s

/-- $03 SLO (zp,X) (R720, unofficial). -/
def execSloIzx (a : Byte) (s : State) : Result := rmwShape (.mem (.izx a)) 8 shiftLeft opOra s

/-- $07 SLO zp (R720, unofficial). -/
def execSloZp (a : Byte) (s : State) : Result := rmwShape (.mem (.zp a)) 5 shiftLeft opOra s

/-- $0F SLO abs (R720, unofficial). -/
def execSloAbs (a : Word) (s : State) : Result := rmwShape (.mem (.abs a)) 6 shiftLeft opOra s

/-- $13 SLO (zp),Y (R720, unofficial). -/
def execSloIzy (a : Byte) (s : State) : Result := rmwShape (.mem (.izy a)) 8 shiftLeft opOra s

/-- $17 SLO zp,X (R720, unofficial). -/
def execSloZpx (a : Byte) (s : State) : Result := rmwShape (.mem (.zpX a)) 6 shiftLeft opOra s

/-- $1B SLO abs,Y (R720, unofficial). -/
def execSloAbsy (a : Word) (s : State) : Result := rmwShape (.mem (.absY a)) 7 shiftLeft opOra s

/-- $1F SLO abs,X (R720, unofficial). -/
def execSloAbsx (a : Word) (s : State) : Result := rmwShape (.mem (.absX a)) 7 shiftLeft opOra s

/-- $23 RLA (zp,X) (R721, unofficial). -/
def execRlaIzx (a : Byte) (s : State) : Result := rmwShape (.mem (.izx a)) 8 rotateLeft opAnd s

/-- $27 RLA zp (R721, unofficial). -/
def execRlaZp (a : Byte) (s : State) : Result := rmwShape (.mem (.zp a)) 5 rotateLeft opAnd s

/-- $2F RLA abs (R721, unofficial). -/
def execRlaAbs (a : Word) (s : State) : Result := rmwShape (.mem (.abs a)) 6 rotateLeft opAnd s

/-- $33 RLA (zp),Y (R721, unofficial). -/
def execRlaIzy (a : Byte) (s : State) : Result := rmwShape (.mem (.izy a)) 8 rotateLeft opAnd s

/-- $37 RLA zp,X (R721, unofficial). -/
def execRlaZpx (a : Byte) (s : State) : Result := rmwShape (.mem (.zpX a)) 6 rotateLeft opAnd s

/-- $3B RLA abs,Y (R721, unofficial). -/
def execRlaAbsy (a : Word) (s : State) : Result := rmwShape (.mem (.absY a)) 7 rotateLeft opAnd s

/-- $3F RLA abs,X (R721, unofficial). -/
def execRlaAbsx (a : Word) (s : State) : Result := rmwShape (.mem (.absX a)) 7 rotateLeft opAnd s

/-- $43 SRE (zp,X) (R722, unofficial). -/
def execSreIzx (a : Byte) (s : State) : Result := rmwShape (.mem (.izx a)) 8 shiftRight opEor s

/-- $47 SRE zp (R722, unofficial). -/
def execSreZp (a : Byte) (s : State) : Result := rmwShape (.mem (.zp a)) 5 shiftRight opEor s

/-- $4F SRE abs (R722, unofficial). -/
def execSreAbs (a : Word) (s : State) : Result := rmwShape (.mem (.abs a)) 6 shiftRight opEor s

/-- $53 SRE (zp),Y (R722, unofficial). -/
def execSreIzy (a : Byte) (s : State) : Result := rmwShape (.mem (.izy a)) 8 shiftRight opEor s

/-- $57 SRE zp,X (R722, unofficial). -/
def execSreZpx (a : Byte) (s : State) : Result := rmwShape (.mem (.zpX a)) 6 shiftRight opEor s

/-- $5B SRE abs,Y (R722, unofficial). -/
def execSreAbsy (a : Word) (s : State) : Result := rmwShape (.mem (.absY a)) 7 shiftRight opEor s

/-- $5F SRE abs,X (R722, unofficial). -/
def execSreAbsx (a : Word) (s : State) : Result := rmwShape (.mem (.absX a)) 7 shiftRight opEor s

/-- $63 RRA (zp,X) (R723, unofficial). -/
def execRraIzx (a : Byte) (s : State) : Result := rmwShape (.mem (.izx a)) 8 rotateRight State.addWithCarry s

/-- $67 RRA zp (R723, unofficial). -/
def execRraZp (a : Byte) (s : State) : Result := rmwShape (.mem (.zp a)) 5 rotateRight State.addWithCarry s

/-- $6F RRA abs (R723, unofficial). -/
def execRraAbs (a : Word) (s : State) : Result := rmwShape (.mem (.abs a)) 6 rotateRight State.addWithCarry s

/-- $73 RRA (zp),Y (R723, unofficial). -/
def execRraIzy (a : Byte) (s : State) : Result := rmwShape (.mem (.izy a)) 8 rotateRight State.addWithCarry s

/-- $77 RRA zp,X (R723, unofficial). -/
def execRraZpx (a : Byte) (s : State) : Result := rmwShape (.mem (.zpX a)) 6 rotateRight State.addWithCarry s

/-- $7B RRA abs,Y (R723, unofficial). -/
def execRraAbsy (a : Word) (s : State) : Result := rmwShape (.mem (.absY a)) 7 rotateRight State.addWithCarry s

/-- $7F RRA abs,X (R723, unofficial). -/
def execRraAbsx (a : Word) (s : State) : Result := rmwShape (.mem (.absX a)) 7 rotateRight State.addWithCarry s

/-- $C3 DCP (zp,X) (R724, unofficial). -/
def execDcpIzx (a : Byte) (s : State) : Result := rmwShape (.mem (.izx a)) 8 decrement opCmp s

/-- $C7 DCP zp (R724, unofficial). -/
def execDcpZp (a : Byte) (s : State) : Result := rmwShape (.mem (.zp a)) 5 decrement opCmp s

/-- $CF DCP abs (R724, unofficial). -/
def execDcpAbs (a : Word) (s : State) : Result := rmwShape (.mem (.abs a)) 6 decrement opCmp s

/-- $D3 DCP (zp),Y (R724, unofficial). -/
def execDcpIzy (a : Byte) (s : State) : Result := rmwShape (.mem (.izy a)) 8 decrement opCmp s

/-- $D7 DCP zp,X (R724, unofficial). -/
def execDcpZpx (a : Byte) (s : State) : Result := rmwShape (.mem (.zpX a)) 6 decrement opCmp s

/-- $DB DCP abs,Y (R724, unofficial). -/
def execDcpAbsy (a : Word) (s : State) : Result := rmwShape (.mem (.absY a)) 7 decrement opCmp s

/-- $DF DCP abs,X (R724, unofficial). -/
def execDcpAbsx (a : Word) (s : State) : Result := rmwShape (.mem (.absX a)) 7 decrement opCmp s

/-- $E3 ISB (zp,X) (R725, unofficial). -/
def execIsbIzx (a : Byte) (s : State) : Result := rmwShape (.mem (.izx a)) 8 increment opSbc s

/-- $E7 ISB zp (R725, unofficial). -/
def execIsbZp (a : Byte) (s : State) : Result := rmwShape (.mem (.zp a)) 5 increment opSbc s

/-- $EF ISB abs (R725, unofficial). -/
def execIsbAbs (a : Word) (s : State) : Result := rmwShape (.mem (.abs a)) 6 increment opSbc s

/-- $F3 ISB (zp),Y (R725, unofficial). -/
def execIsbIzy (a : Byte) (s : State) : Result := rmwShape (.mem (.izy a)) 8 increment opSbc s

/-- $F7 ISB zp,X (R725, unofficial). -/
def execIsbZpx (a : Byte) (s : State) : Result := rmwShape (.mem (.zpX a)) 6 increment opSbc s

/-- $FB ISB abs,Y (R725, unofficial). -/
def execIsbAbsy (a : Word) (s : State) : Result := rmwShape (.mem (.absY a)) 7 increment opSbc s

/-- $FF ISB abs,X (R725, unofficial). -/
def execIsbAbsx (a : Word) (s : State) : Result := rmwShape (.mem (.absX a)) 7 increment opSbc s

end Sys2Proof.Machine
end

