-- ==== Sys2Proof/Machine/Unknown.lean ====
section
/-! DEFINITION. The 29 unknown opcodes (spec/30_encoding.md R330): each takes the fault of spec/60_exceptions.md R1401, whose
effect on the machine the spec gives in full. -/

namespace Sys2Proof.Machine


/-- $02 UNKNOWN (R330). -/
def execUnknown02 (s : State) : Result := .next s.raiseUnknownOpcode

/-- $0B UNKNOWN (R330). -/
def execUnknown0B (s : State) : Result := .next s.raiseUnknownOpcode

/-- $12 UNKNOWN (R330). -/
def execUnknown12 (s : State) : Result := .next s.raiseUnknownOpcode

/-- $22 UNKNOWN (R330). -/
def execUnknown22 (s : State) : Result := .next s.raiseUnknownOpcode

/-- $2B UNKNOWN (R330). -/
def execUnknown2B (s : State) : Result := .next s.raiseUnknownOpcode

/-- $32 UNKNOWN (R330). -/
def execUnknown32 (s : State) : Result := .next s.raiseUnknownOpcode

/-- $42 UNKNOWN (R330). -/
def execUnknown42 (s : State) : Result := .next s.raiseUnknownOpcode

/-- $4B UNKNOWN (R330). -/
def execUnknown4B (s : State) : Result := .next s.raiseUnknownOpcode

/-- $52 UNKNOWN (R330). -/
def execUnknown52 (s : State) : Result := .next s.raiseUnknownOpcode

/-- $62 UNKNOWN (R330). -/
def execUnknown62 (s : State) : Result := .next s.raiseUnknownOpcode

/-- $6B UNKNOWN (R330). -/
def execUnknown6B (s : State) : Result := .next s.raiseUnknownOpcode

/-- $72 UNKNOWN (R330). -/
def execUnknown72 (s : State) : Result := .next s.raiseUnknownOpcode

/-- $82 UNKNOWN (R330). -/
def execUnknown82 (s : State) : Result := .next s.raiseUnknownOpcode

/-- $89 UNKNOWN (R330). -/
def execUnknown89 (s : State) : Result := .next s.raiseUnknownOpcode

/-- $8B UNKNOWN (R330). -/
def execUnknown8B (s : State) : Result := .next s.raiseUnknownOpcode

/-- $92 UNKNOWN (R330). -/
def execUnknown92 (s : State) : Result := .next s.raiseUnknownOpcode

/-- $93 UNKNOWN (R330). -/
def execUnknown93 (s : State) : Result := .next s.raiseUnknownOpcode

/-- $9B UNKNOWN (R330). -/
def execUnknown9B (s : State) : Result := .next s.raiseUnknownOpcode

/-- $9C UNKNOWN (R330). -/
def execUnknown9C (s : State) : Result := .next s.raiseUnknownOpcode

/-- $9E UNKNOWN (R330). -/
def execUnknown9E (s : State) : Result := .next s.raiseUnknownOpcode

/-- $9F UNKNOWN (R330). -/
def execUnknown9F (s : State) : Result := .next s.raiseUnknownOpcode

/-- $AB UNKNOWN (R330). -/
def execUnknownAB (s : State) : Result := .next s.raiseUnknownOpcode

/-- $B2 UNKNOWN (R330). -/
def execUnknownB2 (s : State) : Result := .next s.raiseUnknownOpcode

/-- $BB UNKNOWN (R330). -/
def execUnknownBB (s : State) : Result := .next s.raiseUnknownOpcode

/-- $C2 UNKNOWN (R330). -/
def execUnknownC2 (s : State) : Result := .next s.raiseUnknownOpcode

/-- $CB UNKNOWN (R330). -/
def execUnknownCB (s : State) : Result := .next s.raiseUnknownOpcode

/-- $D2 UNKNOWN (R330). -/
def execUnknownD2 (s : State) : Result := .next s.raiseUnknownOpcode

/-- $E2 UNKNOWN (R330). -/
def execUnknownE2 (s : State) : Result := .next s.raiseUnknownOpcode

/-- $F2 UNKNOWN (R330). -/
def execUnknownF2 (s : State) : Result := .next s.raiseUnknownOpcode

end Sys2Proof.Machine
end

