-- ==== Sys2Proof/Machine/Dispatch.lean ====
section
/-! DEFINITION. What each instruction does, one arm for each row of spec/opcode_table.json. The state it is given is
the one after the fetch: PC stands after the instruction's bytes (R102), or still at an unknown opcode (R1401). The
state it gives has the instruction's whole cycle count loaded, and the CPU step then takes one off (R440). -/

namespace Sys2Proof.Machine

def exec (i : Instr) (s : State) : Host.Outcome State Fault Refusal :=
  match i with
  | .brk => Sys2Proof.Machine.execBrk s
  | .oraIzx a => Sys2Proof.Machine.execOraIzx a s
  | .unknown02 => Sys2Proof.Machine.execUnknown02 s
  | .sloIzx a => Sys2Proof.Machine.execSloIzx a s
  | .nopZp04 a => Sys2Proof.Machine.execNopZp04 a s
  | .oraZp a => Sys2Proof.Machine.execOraZp a s
  | .aslZp a => Sys2Proof.Machine.execAslZp a s
  | .sloZp a => Sys2Proof.Machine.execSloZp a s
  | .php => Sys2Proof.Machine.execPhp s
  | .oraImm a => Sys2Proof.Machine.execOraImm a s
  | .aslAcc => Sys2Proof.Machine.execAslAcc s
  | .unknown0B => Sys2Proof.Machine.execUnknown0B s
  | .nopAbs0C a => Sys2Proof.Machine.execNopAbs0C a s
  | .oraAbs a => Sys2Proof.Machine.execOraAbs a s
  | .aslAbs a => Sys2Proof.Machine.execAslAbs a s
  | .sloAbs a => Sys2Proof.Machine.execSloAbs a s
  | .bpl a => Sys2Proof.Machine.execBpl a s
  | .oraIzy a => Sys2Proof.Machine.execOraIzy a s
  | .unknown12 => Sys2Proof.Machine.execUnknown12 s
  | .sloIzy a => Sys2Proof.Machine.execSloIzy a s
  | .nopZpx14 a => Sys2Proof.Machine.execNopZpx14 a s
  | .oraZpx a => Sys2Proof.Machine.execOraZpx a s
  | .aslZpx a => Sys2Proof.Machine.execAslZpx a s
  | .sloZpx a => Sys2Proof.Machine.execSloZpx a s
  | .clc => Sys2Proof.Machine.execClc s
  | .oraAbsy a => Sys2Proof.Machine.execOraAbsy a s
  | .nopImp1A => Sys2Proof.Machine.execNopImp1A s
  | .sloAbsy a => Sys2Proof.Machine.execSloAbsy a s
  | .nopAbsx1C a => Sys2Proof.Machine.execNopAbsx1C a s
  | .oraAbsx a => Sys2Proof.Machine.execOraAbsx a s
  | .aslAbsx a => Sys2Proof.Machine.execAslAbsx a s
  | .sloAbsx a => Sys2Proof.Machine.execSloAbsx a s
  | .jsr a => Sys2Proof.Machine.execJsr a s
  | .andIzx a => Sys2Proof.Machine.execAndIzx a s
  | .unknown22 => Sys2Proof.Machine.execUnknown22 s
  | .rlaIzx a => Sys2Proof.Machine.execRlaIzx a s
  | .bitZp a => Sys2Proof.Machine.execBitZp a s
  | .andZp a => Sys2Proof.Machine.execAndZp a s
  | .rolZp a => Sys2Proof.Machine.execRolZp a s
  | .rlaZp a => Sys2Proof.Machine.execRlaZp a s
  | .plp => Sys2Proof.Machine.execPlp s
  | .andImm a => Sys2Proof.Machine.execAndImm a s
  | .rolAcc => Sys2Proof.Machine.execRolAcc s
  | .unknown2B => Sys2Proof.Machine.execUnknown2B s
  | .bitAbs a => Sys2Proof.Machine.execBitAbs a s
  | .andAbs a => Sys2Proof.Machine.execAndAbs a s
  | .rolAbs a => Sys2Proof.Machine.execRolAbs a s
  | .rlaAbs a => Sys2Proof.Machine.execRlaAbs a s
  | .bmi a => Sys2Proof.Machine.execBmi a s
  | .andIzy a => Sys2Proof.Machine.execAndIzy a s
  | .unknown32 => Sys2Proof.Machine.execUnknown32 s
  | .rlaIzy a => Sys2Proof.Machine.execRlaIzy a s
  | .nopZpx34 a => Sys2Proof.Machine.execNopZpx34 a s
  | .andZpx a => Sys2Proof.Machine.execAndZpx a s
  | .rolZpx a => Sys2Proof.Machine.execRolZpx a s
  | .rlaZpx a => Sys2Proof.Machine.execRlaZpx a s
  | .sec => Sys2Proof.Machine.execSec s
  | .andAbsy a => Sys2Proof.Machine.execAndAbsy a s
  | .nopImp3A => Sys2Proof.Machine.execNopImp3A s
  | .rlaAbsy a => Sys2Proof.Machine.execRlaAbsy a s
  | .nopAbsx3C a => Sys2Proof.Machine.execNopAbsx3C a s
  | .andAbsx a => Sys2Proof.Machine.execAndAbsx a s
  | .rolAbsx a => Sys2Proof.Machine.execRolAbsx a s
  | .rlaAbsx a => Sys2Proof.Machine.execRlaAbsx a s
  | .rti => Sys2Proof.Machine.execRti s
  | .eorIzx a => Sys2Proof.Machine.execEorIzx a s
  | .unknown42 => Sys2Proof.Machine.execUnknown42 s
  | .sreIzx a => Sys2Proof.Machine.execSreIzx a s
  | .nopZp44 a => Sys2Proof.Machine.execNopZp44 a s
  | .eorZp a => Sys2Proof.Machine.execEorZp a s
  | .lsrZp a => Sys2Proof.Machine.execLsrZp a s
  | .sreZp a => Sys2Proof.Machine.execSreZp a s
  | .pha => Sys2Proof.Machine.execPha s
  | .eorImm a => Sys2Proof.Machine.execEorImm a s
  | .lsrAcc => Sys2Proof.Machine.execLsrAcc s
  | .unknown4B => Sys2Proof.Machine.execUnknown4B s
  | .jmpAbs a => Sys2Proof.Machine.execJmpAbs a s
  | .eorAbs a => Sys2Proof.Machine.execEorAbs a s
  | .lsrAbs a => Sys2Proof.Machine.execLsrAbs a s
  | .sreAbs a => Sys2Proof.Machine.execSreAbs a s
  | .bvc a => Sys2Proof.Machine.execBvc a s
  | .eorIzy a => Sys2Proof.Machine.execEorIzy a s
  | .unknown52 => Sys2Proof.Machine.execUnknown52 s
  | .sreIzy a => Sys2Proof.Machine.execSreIzy a s
  | .nopZpx54 a => Sys2Proof.Machine.execNopZpx54 a s
  | .eorZpx a => Sys2Proof.Machine.execEorZpx a s
  | .lsrZpx a => Sys2Proof.Machine.execLsrZpx a s
  | .sreZpx a => Sys2Proof.Machine.execSreZpx a s
  | .cli => Sys2Proof.Machine.execCli s
  | .eorAbsy a => Sys2Proof.Machine.execEorAbsy a s
  | .nopImp5A => Sys2Proof.Machine.execNopImp5A s
  | .sreAbsy a => Sys2Proof.Machine.execSreAbsy a s
  | .nopAbsx5C a => Sys2Proof.Machine.execNopAbsx5C a s
  | .eorAbsx a => Sys2Proof.Machine.execEorAbsx a s
  | .lsrAbsx a => Sys2Proof.Machine.execLsrAbsx a s
  | .sreAbsx a => Sys2Proof.Machine.execSreAbsx a s
  | .rts => Sys2Proof.Machine.execRts s
  | .adcIzx a => Sys2Proof.Machine.execAdcIzx a s
  | .unknown62 => Sys2Proof.Machine.execUnknown62 s
  | .rraIzx a => Sys2Proof.Machine.execRraIzx a s
  | .nopZp64 a => Sys2Proof.Machine.execNopZp64 a s
  | .adcZp a => Sys2Proof.Machine.execAdcZp a s
  | .rorZp a => Sys2Proof.Machine.execRorZp a s
  | .rraZp a => Sys2Proof.Machine.execRraZp a s
  | .pla => Sys2Proof.Machine.execPla s
  | .adcImm a => Sys2Proof.Machine.execAdcImm a s
  | .rorAcc => Sys2Proof.Machine.execRorAcc s
  | .unknown6B => Sys2Proof.Machine.execUnknown6B s
  | .jmpInd a => Sys2Proof.Machine.execJmpInd a s
  | .adcAbs a => Sys2Proof.Machine.execAdcAbs a s
  | .rorAbs a => Sys2Proof.Machine.execRorAbs a s
  | .rraAbs a => Sys2Proof.Machine.execRraAbs a s
  | .bvs a => Sys2Proof.Machine.execBvs a s
  | .adcIzy a => Sys2Proof.Machine.execAdcIzy a s
  | .unknown72 => Sys2Proof.Machine.execUnknown72 s
  | .rraIzy a => Sys2Proof.Machine.execRraIzy a s
  | .nopZpx74 a => Sys2Proof.Machine.execNopZpx74 a s
  | .adcZpx a => Sys2Proof.Machine.execAdcZpx a s
  | .rorZpx a => Sys2Proof.Machine.execRorZpx a s
  | .rraZpx a => Sys2Proof.Machine.execRraZpx a s
  | .sei => Sys2Proof.Machine.execSei s
  | .adcAbsy a => Sys2Proof.Machine.execAdcAbsy a s
  | .nopImp7A => Sys2Proof.Machine.execNopImp7A s
  | .rraAbsy a => Sys2Proof.Machine.execRraAbsy a s
  | .nopAbsx7C a => Sys2Proof.Machine.execNopAbsx7C a s
  | .adcAbsx a => Sys2Proof.Machine.execAdcAbsx a s
  | .rorAbsx a => Sys2Proof.Machine.execRorAbsx a s
  | .rraAbsx a => Sys2Proof.Machine.execRraAbsx a s
  | .nopImm80 a => Sys2Proof.Machine.execNopImm80 a s
  | .staIzx a => Sys2Proof.Machine.execStaIzx a s
  | .unknown82 => Sys2Proof.Machine.execUnknown82 s
  | .saxIzx a => Sys2Proof.Machine.execSaxIzx a s
  | .styZp a => Sys2Proof.Machine.execStyZp a s
  | .staZp a => Sys2Proof.Machine.execStaZp a s
  | .stxZp a => Sys2Proof.Machine.execStxZp a s
  | .saxZp a => Sys2Proof.Machine.execSaxZp a s
  | .dey => Sys2Proof.Machine.execDey s
  | .unknown89 => Sys2Proof.Machine.execUnknown89 s
  | .txa => Sys2Proof.Machine.execTxa s
  | .unknown8B => Sys2Proof.Machine.execUnknown8B s
  | .styAbs a => Sys2Proof.Machine.execStyAbs a s
  | .staAbs a => Sys2Proof.Machine.execStaAbs a s
  | .stxAbs a => Sys2Proof.Machine.execStxAbs a s
  | .saxAbs a => Sys2Proof.Machine.execSaxAbs a s
  | .bcc a => Sys2Proof.Machine.execBcc a s
  | .staIzy a => Sys2Proof.Machine.execStaIzy a s
  | .unknown92 => Sys2Proof.Machine.execUnknown92 s
  | .unknown93 => Sys2Proof.Machine.execUnknown93 s
  | .styZpx a => Sys2Proof.Machine.execStyZpx a s
  | .staZpx a => Sys2Proof.Machine.execStaZpx a s
  | .stxZpy a => Sys2Proof.Machine.execStxZpy a s
  | .saxZpy a => Sys2Proof.Machine.execSaxZpy a s
  | .tya => Sys2Proof.Machine.execTya s
  | .staAbsy a => Sys2Proof.Machine.execStaAbsy a s
  | .txs => Sys2Proof.Machine.execTxs s
  | .unknown9B => Sys2Proof.Machine.execUnknown9B s
  | .unknown9C => Sys2Proof.Machine.execUnknown9C s
  | .staAbsx a => Sys2Proof.Machine.execStaAbsx a s
  | .unknown9E => Sys2Proof.Machine.execUnknown9E s
  | .unknown9F => Sys2Proof.Machine.execUnknown9F s
  | .ldyImm a => Sys2Proof.Machine.execLdyImm a s
  | .ldaIzx a => Sys2Proof.Machine.execLdaIzx a s
  | .ldxImm a => Sys2Proof.Machine.execLdxImm a s
  | .laxIzx a => Sys2Proof.Machine.execLaxIzx a s
  | .ldyZp a => Sys2Proof.Machine.execLdyZp a s
  | .ldaZp a => Sys2Proof.Machine.execLdaZp a s
  | .ldxZp a => Sys2Proof.Machine.execLdxZp a s
  | .laxZp a => Sys2Proof.Machine.execLaxZp a s
  | .tay => Sys2Proof.Machine.execTay s
  | .ldaImm a => Sys2Proof.Machine.execLdaImm a s
  | .tax => Sys2Proof.Machine.execTax s
  | .unknownAB => Sys2Proof.Machine.execUnknownAB s
  | .ldyAbs a => Sys2Proof.Machine.execLdyAbs a s
  | .ldaAbs a => Sys2Proof.Machine.execLdaAbs a s
  | .ldxAbs a => Sys2Proof.Machine.execLdxAbs a s
  | .laxAbs a => Sys2Proof.Machine.execLaxAbs a s
  | .bcs a => Sys2Proof.Machine.execBcs a s
  | .ldaIzy a => Sys2Proof.Machine.execLdaIzy a s
  | .unknownB2 => Sys2Proof.Machine.execUnknownB2 s
  | .laxIzy a => Sys2Proof.Machine.execLaxIzy a s
  | .ldyZpx a => Sys2Proof.Machine.execLdyZpx a s
  | .ldaZpx a => Sys2Proof.Machine.execLdaZpx a s
  | .ldxZpy a => Sys2Proof.Machine.execLdxZpy a s
  | .laxZpy a => Sys2Proof.Machine.execLaxZpy a s
  | .clv => Sys2Proof.Machine.execClv s
  | .ldaAbsy a => Sys2Proof.Machine.execLdaAbsy a s
  | .tsx => Sys2Proof.Machine.execTsx s
  | .unknownBB => Sys2Proof.Machine.execUnknownBB s
  | .ldyAbsx a => Sys2Proof.Machine.execLdyAbsx a s
  | .ldaAbsx a => Sys2Proof.Machine.execLdaAbsx a s
  | .ldxAbsy a => Sys2Proof.Machine.execLdxAbsy a s
  | .laxAbsy a => Sys2Proof.Machine.execLaxAbsy a s
  | .cpyImm a => Sys2Proof.Machine.execCpyImm a s
  | .cmpIzx a => Sys2Proof.Machine.execCmpIzx a s
  | .unknownC2 => Sys2Proof.Machine.execUnknownC2 s
  | .dcpIzx a => Sys2Proof.Machine.execDcpIzx a s
  | .cpyZp a => Sys2Proof.Machine.execCpyZp a s
  | .cmpZp a => Sys2Proof.Machine.execCmpZp a s
  | .decZp a => Sys2Proof.Machine.execDecZp a s
  | .dcpZp a => Sys2Proof.Machine.execDcpZp a s
  | .iny => Sys2Proof.Machine.execIny s
  | .cmpImm a => Sys2Proof.Machine.execCmpImm a s
  | .dex => Sys2Proof.Machine.execDex s
  | .unknownCB => Sys2Proof.Machine.execUnknownCB s
  | .cpyAbs a => Sys2Proof.Machine.execCpyAbs a s
  | .cmpAbs a => Sys2Proof.Machine.execCmpAbs a s
  | .decAbs a => Sys2Proof.Machine.execDecAbs a s
  | .dcpAbs a => Sys2Proof.Machine.execDcpAbs a s
  | .bne a => Sys2Proof.Machine.execBne a s
  | .cmpIzy a => Sys2Proof.Machine.execCmpIzy a s
  | .unknownD2 => Sys2Proof.Machine.execUnknownD2 s
  | .dcpIzy a => Sys2Proof.Machine.execDcpIzy a s
  | .nopZpxD4 a => Sys2Proof.Machine.execNopZpxD4 a s
  | .cmpZpx a => Sys2Proof.Machine.execCmpZpx a s
  | .decZpx a => Sys2Proof.Machine.execDecZpx a s
  | .dcpZpx a => Sys2Proof.Machine.execDcpZpx a s
  | .cld => Sys2Proof.Machine.execCld s
  | .cmpAbsy a => Sys2Proof.Machine.execCmpAbsy a s
  | .nopImpDA => Sys2Proof.Machine.execNopImpDA s
  | .dcpAbsy a => Sys2Proof.Machine.execDcpAbsy a s
  | .nopAbsxDC a => Sys2Proof.Machine.execNopAbsxDC a s
  | .cmpAbsx a => Sys2Proof.Machine.execCmpAbsx a s
  | .decAbsx a => Sys2Proof.Machine.execDecAbsx a s
  | .dcpAbsx a => Sys2Proof.Machine.execDcpAbsx a s
  | .cpxImm a => Sys2Proof.Machine.execCpxImm a s
  | .sbcIzx a => Sys2Proof.Machine.execSbcIzx a s
  | .unknownE2 => Sys2Proof.Machine.execUnknownE2 s
  | .isbIzx a => Sys2Proof.Machine.execIsbIzx a s
  | .cpxZp a => Sys2Proof.Machine.execCpxZp a s
  | .sbcZp a => Sys2Proof.Machine.execSbcZp a s
  | .incZp a => Sys2Proof.Machine.execIncZp a s
  | .isbZp a => Sys2Proof.Machine.execIsbZp a s
  | .inx => Sys2Proof.Machine.execInx s
  | .sbcImm a => Sys2Proof.Machine.execSbcImm a s
  | .nopImp => Sys2Proof.Machine.execNopImp s
  | .sbcImmEB a => Sys2Proof.Machine.execSbcImmEB a s
  | .cpxAbs a => Sys2Proof.Machine.execCpxAbs a s
  | .sbcAbs a => Sys2Proof.Machine.execSbcAbs a s
  | .incAbs a => Sys2Proof.Machine.execIncAbs a s
  | .isbAbs a => Sys2Proof.Machine.execIsbAbs a s
  | .beq a => Sys2Proof.Machine.execBeq a s
  | .sbcIzy a => Sys2Proof.Machine.execSbcIzy a s
  | .unknownF2 => Sys2Proof.Machine.execUnknownF2 s
  | .isbIzy a => Sys2Proof.Machine.execIsbIzy a s
  | .nopZpxF4 a => Sys2Proof.Machine.execNopZpxF4 a s
  | .sbcZpx a => Sys2Proof.Machine.execSbcZpx a s
  | .incZpx a => Sys2Proof.Machine.execIncZpx a s
  | .isbZpx a => Sys2Proof.Machine.execIsbZpx a s
  | .sed => Sys2Proof.Machine.execSed s
  | .sbcAbsy a => Sys2Proof.Machine.execSbcAbsy a s
  | .nopImpFA => Sys2Proof.Machine.execNopImpFA s
  | .isbAbsy a => Sys2Proof.Machine.execIsbAbsy a s
  | .nopAbsxFC a => Sys2Proof.Machine.execNopAbsxFC a s
  | .sbcAbsx a => Sys2Proof.Machine.execSbcAbsx a s
  | .incAbsx a => Sys2Proof.Machine.execIncAbsx a s
  | .isbAbsx a => Sys2Proof.Machine.execIsbAbsx a s

end Sys2Proof.Machine
end

