-- ==== Sys2Proof/Machine/PpuRender.lean ====
section
/-! DEFINITION. The PPU's dot/scanline machine and pixel pipelines (spec/51_ppu_rendering.md). `State.ppuStep` is
R1160 line by line: each stage is a function that acts only at its own dots. -/

namespace Sys2Proof.Machine

/-! ## Scroll updates (R1111-R1114) -/

/-- `IncX` (R1111). -/
def incX (v : BitVec 15) : BitVec 15 :=
  if v &&& 0x001F = 0x001F then (v &&& 0x7FE0) ^^^ 0x0400 else v + 1

/-- `IncY` (R1112). -/
def incY (v : BitVec 15) : BitVec 15 :=
  if v &&& 0x7000 ≠ 0x7000 then v + 0x1000
  else
    let rest := v &&& 0x0C1F
    let cy := (v >>> 5) &&& 0x001F
    if cy = 29 then rest ^^^ 0x0800
    else if cy = 31 then rest
    else rest ||| ((cy + 1) <<< 5)

/-- The horizontal copy (R1113), mask $041F. -/
def copyHorizontal (v t : BitVec 15) : BitVec 15 := (v &&& 0x7BE0) ||| (t &&& 0x041F)

/-- The vertical copy (R1114), mask $7BE0. -/
def copyVertical (v t : BitVec 15) : BitVec 15 := (v &&& 0x041F) ||| (t &&& 0x7BE0)

/-! ## Flag events (R1110, R1120) -/

/-- Pre-render dot 1 (R1110). -/
def Ppu.clearFlags (p : Ppu) : Ppu :=
  { p with
    vbl := false
    sprite0Hit := false
    overflow := false
    vblSuppress := false
    secCount := 0
    secHasZero := false }

/-- The start of vertical blank (R1120). -/
def State.vblankStart (s : State) : State :=
  if s.ppu.vblSuppress then s
  else
    let s1 := { s with ppu.vbl := true }
    if s.ppu.ctrl.getLsbD 7 then s1.signalNmi else s1

/-! ## Background pipeline (R1121-R1130) -/

/-- `$2000 | (v & $0FFF)`: the nametable byte of v (R1121). -/
def Ppu.nametableAddr (p : Ppu) : BitVec 14 := 0x2000 ||| (p.v &&& 0x0FFF).setWidth 14

/-- The attribute byte of v (R1123). -/
def Ppu.attributeAddr (p : Ppu) : BitVec 14 :=
  0x23C0 ||| ((p.v &&& 0x0C00) ||| ((p.v >>> 4) &&& 0x0038) ||| ((p.v >>> 2) &&& 0x0007)).setWidth 14

/-- The two attribute bits of v's quadrant (R1123). -/
def attrBits (v : BitVec 15) (b : Byte) : BitVec 2 :=
  let b1 := if v.getLsbD 6 then b >>> 4 else b
  let b2 := if v.getLsbD 1 then b1 >>> 2 else b1
  b2.setWidth 2

/-- The low pattern byte of the fetched tile: `bg_base + 16 * nt_next + v[14:12]` (R1121). -/
def Ppu.patternAddr (p : Ppu) : BitVec 14 :=
  (if p.ctrl.getLsbD 4 then 0x1000 else 0x0000) + 16 * p.ntNext.setWidth 14 + (p.v >>> 12).setWidth 14

/-- One read of the PPU whose byte goes into the PPU's own state. -/
def State.fetchInto (s : State) (a : BitVec 14) (store : Ppu → Byte → Ppu) : State :=
  let s1 := s.afterPpuRead a
  { s1 with ppu := store s1.ppu (s.ppuRead a) }

/-- The fetch or `IncX` of a dot's phase (R1121). -/
def State.fetchPhase (s : State) (d : Nat) : State :=
  match (d - 1) % 8 with
  | 0 => s.fetchInto s.ppu.nametableAddr (fun p b => { p with ntNext := b })
  | 2 => s.fetchInto s.ppu.attributeAddr (fun p b => { p with atNext := attrBits p.v b })
  | 4 => s.fetchInto s.ppu.patternAddr (fun p b => { p with patLoNext := b })
  | 6 => s.fetchInto (s.ppu.patternAddr + 8) (fun p b => { p with patHiNext := b })
  | 7 => { s with ppu.v := incX s.ppu.v }
  | _ => s

/-- The four shift registers move left by one (R1124). -/
def Ppu.shift (p : Ppu) : Ppu :=
  { p with
    bgPatLo := p.bgPatLo <<< 1
    bgPatHi := p.bgPatHi <<< 1
    bgAttrLo := p.bgAttrLo <<< 1
    bgAttrHi := p.bgAttrHi <<< 1 }

/-- A shift register's low byte replaced. -/
def withLowByte (r : BitVec 16) (b : Byte) : BitVec 16 := (r &&& 0xFF00) ||| b.setWidth 16

/-- The reload of the low bytes (R1125). -/
def Ppu.reload (p : Ppu) : Ppu :=
  { p with
    bgPatLo := withLowByte p.bgPatLo p.patLoNext
    bgPatHi := withLowByte p.bgPatHi p.patHiNext
    bgAttrLo := withLowByte p.bgAttrLo (if p.atNext.getLsbD 0 then 0xFF else 0x00)
    bgAttrHi := withLowByte p.bgAttrHi (if p.atNext.getLsbD 1 then 0xFF else 0x00) }

/-- Two bits as a number: `{hi, lo}`. -/
def twoBits (hi lo : Bool) : Nat := (if hi then 2 else 0) + (if lo then 1 else 0)

/-- `bg_px` for a screen column (R1130). -/
def Ppu.bgPixel (p : Ppu) (xp : Nat) : Nat :=
  let sel := 15 - p.fineX.toNat
  if !p.mask.getLsbD 3 || (decide (xp < 8) && !p.mask.getLsbD 1) then 0
  else twoBits (p.bgPatHi.getLsbD sel) (p.bgPatLo.getLsbD sel)

/-- `bg_pal` (R1130). -/
def Ppu.bgPalette (p : Ppu) : Nat :=
  let sel := 15 - p.fineX.toNat
  twoBits (p.bgAttrHi.getLsbD sel) (p.bgAttrLo.getLsbD sel)

/-! ## Sprite pipeline (R1140-R1145) -/

/-- The secondary OAM clear (R1140). -/
def Ppu.clearSecOam (p : Ppu) : Ppu := { p with secOam := p.secOam.fill 0 32 0xFF }

/-- The sprite height in force: 16 in 8x16 mode, else 8 (R1141). -/
def Ppu.spriteHeight (p : Ppu) : Nat := if p.ctrl.getLsbD 5 then 16 else 8

/-- What the sprite evaluation carries from entry to entry (R1141). -/
structure Evaluation where
  count : Nat
  secOam : Memory
  hasZero : Bool
  overflow : Bool
  deriving DecidableEq, Repr

/-- The four bytes of entry `i` of `oam` copied to entry `n` of secondary OAM (R1141). -/
def copyEntry (oam secOam : Memory) (i n : Nat) : Memory :=
  (((secOam.write (4 * n) (oam.read (4 * i))).write (4 * n + 1) (oam.read (4 * i + 1))).write
    (4 * n + 2) (oam.read (4 * i + 2))).write (4 * n + 3) (oam.read (4 * i + 3))

/-- Whether an entry with this y byte is in range on line `s` (R1141). -/
def spriteInRange (s : Int) (h : Nat) (y : Byte) : Bool :=
  decide (0 ≤ s - (y.toNat : Int)) && decide (s - (y.toNat : Int) < (h : Int))

/-- The evaluation of one OAM entry (R1141). -/
def Evaluation.entry (s : Int) (h : Nat) (oam : Memory) (e : Evaluation) (i : Nat) : Evaluation :=
  if spriteInRange s h (oam.read (4 * i)) then
    if e.count < 8 then
      { e with
        count := e.count + 1
        secOam := copyEntry oam e.secOam i e.count
        hasZero := e.hasZero || i == 0 }
    else { e with overflow := true }
  else e

/-- The evaluation of OAM entries 0 to 63 for the next line (R1141). -/
def Ppu.evaluation (p : Ppu) : Evaluation :=
  (List.range 64).foldl (Evaluation.entry p.scanline p.spriteHeight p.oam) ⟨0, p.secOam, false, p.overflow⟩

/-- Sprite evaluation at dot 256 (R1141). -/
def Ppu.evaluate (p : Ppu) : Ppu :=
  { p with
    secCount := p.evaluation.count
    secOam := p.evaluation.secOam
    secHasZero := p.evaluation.hasZero
    overflow := p.evaluation.overflow }

/-- The start of sprite loading at dot 257 (R1142). -/
def Ppu.startSprites (p : Ppu) : Ppu := { p with sprCount := p.secCount, sprZeroInLine := p.secHasZero }

/-- The pattern address of a sprite row (R1144). Arithmetic is on integers, as R13 says, and the address is then
taken on 14 bits (log 8). -/
def spritePatternAddr (ctrl : Byte) (tile : Byte) (row : Int) : BitVec 14 :=
  if ctrl.getLsbD 5 then
    let base : Int := if tile.getLsbD 0 then 0x1000 else 0
    let t : Int := (tile &&& 0xFE).toNat
    if 8 ≤ row then BitVec.ofInt 14 (base + 16 * (t + 1) + (row - 8))
    else BitVec.ofInt 14 (base + 16 * t + row)
  else
    let base : Int := if ctrl.getLsbD 3 then 0x1000 else 0
    BitVec.ofInt 14 (base + 16 * (tile.toNat : Int) + row)

/-- The row of a sprite on line `s`, turned over by flip-vertical (R1144). -/
def spriteRow (s : Int) (h : Nat) (y attr : Byte) : Int :=
  let row := s - (y.toNat : Int)
  if attr.getLsbD 7 then (h : Int) - 1 - row else row

/-- `SprAddr(i)` (R1144): an empty slot has tile $FF and row 0. -/
def Ppu.sprAddr (p : Ppu) (i : Nat) : BitVec 14 :=
  if i < p.sprCount then
    spritePatternAddr p.ctrl (p.secOam.read (4 * i + 1))
      (spriteRow p.scanline p.spriteHeight (p.secOam.read (4 * i)) (p.secOam.read (4 * i + 2)))
  else spritePatternAddr p.ctrl 0xFF 0

/-- `Rev`: the eight bits in reverse order (R1143). -/
def rev (b : Byte) : Byte := b.reverse

/-- Slot `i` after its load dot, from the two pattern bytes (R1143): oriented by flip-horizontal; an empty slot is
made transparent. -/
def Ppu.loadSlot (p : Ppu) (i : Nat) (lo hi : Byte) : Ppu :=
  let attr := p.secOam.read (4 * i + 2)
  let flip := attr.getLsbD 6
  let filled : SpriteSlot :=
    ⟨if flip then rev lo else lo, if flip then rev hi else hi, p.secOam.read (4 * i + 3), attr⟩
  if h : i < 8 then
    if i < p.sprCount then { p with slots := p.slots.set i filled h }
    else { p with slots := p.slots.set i { p.slots[i] with lo := 0, hi := 0 } h }
  else p

/-- The low pattern byte at a slot's load dot: the byte fetched two dots before, or a free value when rendering was
disabled then (log 7). -/
def State.spriteLow (s : State) : Byte := s.ppu.sprLoLatch.getD (Config.unfetchedSpriteLow s.freeCount)

/-- The load dot of slot `i` (R1143): the high pattern byte is read and the slot loaded. -/
def State.loadSprite (s : State) (i : Nat) : State :=
  let a := s.ppu.sprAddr i + 8
  let s1 := s.afterPpuRead a
  { s1 with
    ppu := s1.ppu.loadSlot i s.spriteLow (s.ppuRead a)
    freeCount := if s.ppu.sprLoLatch.isSome then s1.freeCount else s1.freeCount + 1 }

/-- The sprite fetch of a dot in 257-320 (R1143): garbage nametable reads at the slot's second and fourth dots, the
low pattern byte at the sixth, the high one and the load at the eighth. -/
def State.spriteFetch (s : State) (d : Nat) : State :=
  let i := (d - 257) / 8
  match (d - 257) % 8 with
  | 1 => s.afterPpuRead s.ppu.nametableAddr
  | 3 => s.afterPpuRead s.ppu.nametableAddr
  | 5 => s.fetchInto (s.ppu.sprAddr i) (fun p b => { p with sprLoLatch := some b })
  | 7 => s.loadSprite i
  | _ => s

/-- What the sprite search finds for a column (R1145); `px = 0` when no sprite wins. -/
structure SpritePixel where
  px : Nat
  pal : Nat
  behind : Bool
  zero : Bool
  deriving DecidableEq, Repr

/-- The pixel of one slot at column `xp`: 0 outside the sprite's eight columns (R1145). -/
def SpriteSlot.pixel (sl : SpriteSlot) (xp : Nat) : Nat :=
  if sl.x.toNat ≤ xp ∧ xp - sl.x.toNat < 8 then
    let bit := 7 - (xp - sl.x.toNat)
    twoBits (sl.hi.getLsbD bit) (sl.lo.getLsbD bit)
  else 0

/-- The first slot, from index `i` on, that is not transparent at column `xp` (R1145). -/
def firstSprite (zeroInLine : Bool) (xp : Nat) : Nat → List SpriteSlot → SpritePixel
  | _, [] => ⟨0, 0, false, false⟩
  | i, sl :: rest =>
    if sl.pixel xp ≠ 0 then
      ⟨sl.pixel xp, 4 + (sl.attr &&& 0x03).toNat, sl.attr.getLsbD 5, i == 0 && zeroInLine⟩
    else firstSprite zeroInLine xp (i + 1) rest

/-- The sprite pixel for a column (R1145), forced to 0 by the show and clip flags. -/
def Ppu.spritePixel (p : Ppu) (xp : Nat) : SpritePixel :=
  if !p.mask.getLsbD 4 || (decide (xp < 8) && !p.mask.getLsbD 2) then ⟨0, 0, false, false⟩
  else firstSprite p.sprZeroInLine xp 0 (p.slots.toList.take p.sprCount)

/-! ## Pixel output (R1150-R1152) -/

/-- The palette index that the mux selects, as an offset from $3F00 (R1150). -/
def muxIndex (bgPx bgPal : Nat) (sp : SpritePixel) : Nat :=
  if bgPx = 0 ∧ sp.px = 0 then 0
  else if bgPx = 0 then 4 * sp.pal + sp.px
  else if sp.px = 0 then 4 * bgPal + bgPx
  else if sp.behind then 4 * bgPal + bgPx
  else 4 * sp.pal + sp.px

/-- Whether a pixel reports sprite-0 hit (R1150, D25). -/
def sprite0Hits (bgPx : Nat) (sp : SpritePixel) (xp : Nat) (x255 : Bool) : Bool :=
  bgPx != 0 && sp.px != 0 && sp.zero && (xp != 255 || x255)

/-- The greyscale mask on a colour index (R1150, D26). -/
def Ppu.greyscale (p : Ppu) (c : BitVec 6) : BitVec 6 := c &&& (if p.mask.getLsbD 0 then 0x30 else 0x3F)

/-- The colour at an offset from $3F00: an access inside the PPU, not on its bus (R1150, R1101). -/
def Ppu.colourAt (p : Ppu) (idx : Nat) : BitVec 6 :=
  p.greyscale (p.paletteEntry (palIndex (BitVec.ofNat 14 (0x3F00 + idx))))

/-- The pixel of column `xp` on visible line `y` with rendering enabled (R1150). -/
def State.muxPixel (s : State) (xp y : Nat) : State :=
  let bg := s.ppu.bgPixel xp
  let sp := s.ppu.spritePixel xp
  { s with
    ppu.sprite0Hit := s.ppu.sprite0Hit || sprite0Hits bg sp xp s.params.sprite0HitX255
    pixel := some ⟨xp, y, s.ppu.colourAt (muxIndex bg s.ppu.bgPalette sp)⟩ }

/-- The pixel with rendering disabled (R1151). -/
def State.backdropPixel (s : State) (xp y : Nat) : State :=
  { s with pixel := some ⟨xp, y, s.ppu.greyscale (s.ppu.paletteEntry 0)⟩ }

/-! ## The dot (R1105, R1160) -/

/-- The open-bus decay at a frame increment (R1002). -/
def Ppu.decayOpenBus (p : Ppu) : Ppu :=
  { p with
    openBusAge := p.openBusAge + 1
    openBus := if Config.openBusDecayFrames ≤ p.openBusAge + 1 then 0 else p.openBus }

/-- The next position (R1105). -/
def Ppu.advance (p : Ppu) : Ppu :=
  if p.scanline = -1 ∧ p.dot = 339 ∧ p.frame % 2 = 1 ∧ p.renderingEnabled = true then
    { p with scanline := 0, dot := 0 }
  else if p.dot + 1 ≠ 341 then { p with dot := p.dot + 1 }
  else if p.scanline + 1 ≠ 261 then { p with dot := 0, scanline := p.scanline + 1 }
  else { p with dot := 0, scanline := -1, frame := p.frame + 1 }.decayOpenBus

/-- Whether the line is pre-render or visible, where fetches, shifts and scroll updates run (R1106). -/
def Ppu.renderLine (p : Ppu) : Bool := decide (-1 ≤ p.scanline) && decide (p.scanline ≤ 239)

/-- Whether the line is visible (R1106). -/
def Ppu.visibleLine (p : Ppu) : Bool := decide (0 ≤ p.scanline) && decide (p.scanline ≤ 239)

/-- The dots of R1124. -/
def isShiftDot (d : Nat) : Bool := (decide (2 ≤ d) && decide (d ≤ 257)) || (decide (322 ≤ d) && decide (d ≤ 337))

/-- The dots of R1125: 9, 17, ..., 257, 329 and 337. -/
def isReloadDot (d : Nat) : Bool :=
  (d - 1) % 8 == 0 && ((decide (9 ≤ d) && decide (d ≤ 257)) || (decide (329 ≤ d) && decide (d ≤ 337)))

/-- The dots of R1121. -/
def isFetchDot (d : Nat) : Bool := (decide (1 ≤ d) && decide (d ≤ 256)) || (decide (321 ≤ d) && decide (d ≤ 336))

/-- The dots of R1143. -/
def isSpriteDot (d : Nat) : Bool := decide (257 ≤ d) && decide (d ≤ 320)

/-- The flag events of a dot (R1110, R1120). -/
def State.flagEvents (s : State) : State :=
  if s.ppu.scanline = -1 ∧ s.ppu.dot = 1 then { s with ppu := s.ppu.clearFlags }
  else if s.ppu.scanline = 241 ∧ s.ppu.dot = 1 then s.vblankStart
  else s

/-- Shift, then reload (R1124-R1126). -/
def Ppu.shiftStage (p : Ppu) : Ppu :=
  let p1 := if isShiftDot p.dot then p.shift else p
  if isReloadDot p.dot then p1.reload else p1

/-- The background reads and `IncX` of a dot (R1121, R1122). -/
def State.backgroundStage (s : State) : State :=
  if isFetchDot s.ppu.dot then s.fetchPhase s.ppu.dot
  else if s.ppu.dot = 337 ∨ s.ppu.dot = 339 then s.afterPpuRead s.ppu.nametableAddr
  else s

/-- The scroll updates at dots 256, 257 and 280-304 (R1112-R1114). -/
def Ppu.scrollStage (p : Ppu) : Ppu :=
  if p.dot = 256 then { p with v := incY p.v }
  else if p.dot = 257 then { p with v := copyHorizontal p.v p.t }
  else if p.scanline = -1 ∧ 280 ≤ p.dot ∧ p.dot ≤ 304 then { p with v := copyVertical p.v p.t }
  else p

/-- The secondary OAM clear, the evaluation and the start of loading (R1140-R1142). -/
def Ppu.evaluateStage (p : Ppu) : Ppu :=
  if p.visibleLine && p.dot == 64 then p.clearSecOam
  else if p.visibleLine && p.dot == 256 then p.evaluate
  else if p.dot = 257 then p.startSprites
  else p

/-- The sprite fetches (R1143). -/
def State.spriteStage (s : State) : State := if isSpriteDot s.ppu.dot then s.spriteFetch s.ppu.dot else s

/-- Everything that a dot of a pre-render or visible line does with rendering enabled, before the pixel, in the
order of R1126 and R1160. -/
def State.renderStages (s : State) : State :=
  let s1 := { s with ppu := s.ppu.shiftStage }
  let s2 := s1.backgroundStage
  let s3 := { s2 with ppu := s2.ppu.scrollStage.evaluateStage }
  s3.spriteStage

/-- The pixel of a dot (R1150, R1151): one call of the sink at dots 1-256 of a visible line, else none. -/
def State.pixelStage (s : State) : State :=
  if s.ppu.visibleLine && decide (1 ≤ s.ppu.dot) && decide (s.ppu.dot ≤ 256) then
    if s.ppu.renderingEnabled then s.muxPixel (s.ppu.dot - 1) s.ppu.scanline.toNat
    else s.backdropPixel (s.ppu.dot - 1) s.ppu.scanline.toNat
  else { s with pixel := none }

/-- A slot's low byte does not outlive the slot's load dot (log 7). -/
def Ppu.expireLatch (p : Ppu) : Ppu :=
  if isSpriteDot p.dot && (p.dot - 257) % 8 == 7 then { p with sprLoLatch := none } else p

/-- `ppu_step()` (R1160): one dot. -/
def State.ppuStep (s : State) : State :=
  let s1 := s.flagEvents
  let s2 := if s1.ppu.renderLine && s1.ppu.renderingEnabled then s1.renderStages else s1
  let s3 := s2.pixelStage
  { s3 with ppu := s3.ppu.expireLatch.advance }

end Sys2Proof.Machine
end

