-- ==== Sys2Proof/Machine/Cycle.lean ====
section
/-! DEFINITION. The CPU step (spec/40_addressing_and_cycle.md R440-R442), the fetch, and the bus cycle
(spec/53_bus_dma_controller.md R1301). -/

namespace Sys2Proof.Machine

/-- The state after `FetchByte()` (R400): the read at PC with its side effects, then PC + 1. -/
def State.afterFetchByte (s : State) : State := (s.afterRead s.cpu.pc).setPc (s.cpu.pc + 1)

/-- `n` bytes at PC, read one after the other by `FetchByte()` (R400, R422). -/
def State.fetchBytes (s : State) : Nat → List Byte
  | 0 => []
  | n + 1 => s.busRead s.cpu.pc :: s.afterFetchByte.fetchBytes n

/-- The state after `n` calls of `FetchByte()`. -/
def State.afterFetchBytes (s : State) : Nat → State
  | 0 => s
  | n + 1 => s.afterFetchByte.afterFetchBytes n

/-- The instruction that the fetch at PC finds: the opcode byte selects the row, and the row's operand bytes follow
(R300, R301, R400). -/
def State.fetched (s : State) : Instr :=
  let s1 := s.afterFetchByte
  match rowOf (s.busRead s.cpu.pc) with
  | .null i => i
  | .one i => i
  | .two f => f (s1.busRead s1.cpu.pc)
  | .three f => f (wordOf (s1.busRead s1.cpu.pc) (s1.afterFetchByte.busRead s1.afterFetchByte.cpu.pc))

/-- The state after the fetch. PC passes the instruction's bytes (R102); it stays at an unknown opcode, whose read has
happened (R1401). -/
def State.afterFetch (s : State) : State :=
  match rowOf (s.busRead s.cpu.pc) with
  | .null _ => s.afterRead s.cpu.pc
  | .one _ => s.afterFetchBytes 1
  | .two _ => s.afterFetchBytes 2
  | .three _ => s.afterFetchBytes 3

/-- The end of a CPU step that did not fail (R440): one cycle is taken off, and the step reports COMPLETE when none is
left. -/
def State.countDown (s : State) : State :=
  { s with
    cpu.cycles := s.cpu.cycles - 1
    cpu.cycleCount := s.cpu.cycleCount + 1
    result := if s.cpu.cycles - 1 = 0 then .complete else .inProgress }

/-- The end of a CPU step that failed (R440, R1401, R1402): the step is counted, and FAILURE reported. -/
def State.reportFailure (s : State) : State :=
  { s with cpu.cycleCount := s.cpu.cycleCount + 1, result := .failure }

/-- What follows an instruction's effect in its first CPU step (R440): an unknown opcode has set `halted`. -/
def State.retire (s : State) : State := if s.cpu.halted then s.reportFailure else s.countDown

/-- The instruction at PC: fetch, decode, execute, and the end of the step (R440). -/
def runInstruction (s : State) : Result :=
  match exec s.fetched s.afterFetch with
  | .next t => .next t.retire
  | .fault f => .fault f
  | .refused r => .refused r

/-- `cpu_step()` (R440), with the priority of R1425. -/
def cpuStep (s : State) : Result :=
  if s.cpu.halted then .next s.reportFailure
  else if s.cpu.cycles ≠ 0 then .next s.countDown
  else if s.cpu.nmiPending then .next (s.interruptEntry .nmi).countDown
  else if s.irqLine && !flagI s.cpu.p then .next (s.interruptEntry .irq).countDown
  else runInstruction s

/-- The cartridge's `cpu_clock` hook (R1301, R1261). -/
def State.clockCartridge (s : State) : State := { s with cart := s.cart.map Cartridge.cpuClock }

/-- The end of a bus call (R1301). -/
def State.tick (s : State) : State := { s with clock := s.clock + 1 }

/-- The PPU part of a bus call: one dot, and no CPU result yet (R1301). -/
def State.beginCall (s : State) : State := { s.ppuStep with result := .none }

/-- `bus_cycle()` (R1301): the PPU, then on every third call the CPU and the cartridge's hook. Without a cartridge the
spec gives no call a meaning (R1202, R1271). -/
def busCycle (s : State) : Result :=
  if s.cart.isNone then .fault .noCartridge
  else if s.clock % 3 = 0 then
    match cpuStep s.beginCall with
    | .next t => .next t.clockCartridge.tick
    | .fault f => .fault f
    | .refused r => .refused r
  else .next s.beginCall.tick

end Sys2Proof.Machine
end

