-- ==== Sys2Proof/Machine/Step.lean ====
section
/-! DEFINITION. The step of the machine, one call of the host's `bus.cycle()` (spec/53_bus_dma_controller.md R1300,
R1301), and placing an instruction word where the next step fetches it. -/

namespace Sys2Proof.Machine

/-- One step: one bus call (R1300, R1301, log 9). -/
def step (s : State) : Result := busCycle s

/-- The machine at a CPU step that begins an instruction: a cartridge is in, the next bus call is a CPU call, no cycle
is left over, and neither the fault latch nor an NMI is in the way (log 11). -/
def State.atBoundary (s : State) : State :=
  { s with
    cart := some (s.cart.getD blankCartridge)
    clock := s.clock - s.clock % 3
    cpu.cycles := 0
    cpu.halted := false
    cpu.nmiPending := false
    ppu.dot := if s.ppu.inVblRace then 2 else s.ppu.dot }

/-- Where an instruction's bytes can be placed at PC: three bytes of work RAM, or three bytes of PRG-ROM (log 11). -/
def placeable (pc : Word) : Bool :=
  decide (pc.toNat ≤ 0x1FFD) || (decide (0x8000 ≤ pc.toNat) && decide (pc.toNat ≤ 0xFFFD))

/-- A byte stored behind a CPU address: in work RAM, or in the PRG-ROM byte that the mapper shows there (log 11). -/
def State.placeByte (s : State) (a : Word) (v : Byte) : State :=
  if a.toNat ≤ 0x1FFF then { s with ram := s.ram.write (a.toNat % 0x800) v }
  else { s with cart := s.cart.map (fun c => { c with prgRom := c.prgRom.write (c.prgIndex a) v }) }

/-- Bytes stored behind an address and those after it. -/
def State.placeBytes (s : State) (a : Word) : List Byte → State
  | [] => s
  | b :: bs => (s.placeByte a b).placeBytes (a + 1) bs

/-- I set when the IRQ would be taken instead of the instruction (log 11). -/
def State.maskIrq (s : State) : State :=
  if s.beginCall.irqLine && !flagI s.cpu.p then s.setP (withI s.cpu.p true) else s

/-- The state whose next step fetches and runs the instruction of a table word (log 11). -/
def State.withFetchWord (s : State) (nbits w : Nat) : State :=
  let s1 := s.atBoundary
  let s2 := if placeable s1.cpu.pc then s1 else s1.setPc 0x0200
  (s2.placeBytes s2.cpu.pc (tableBytes nbits w)).maskIrq

end Sys2Proof.Machine
end

