-- ==== Sys2Proof/Machine/HostOps.lean ====
section
/-! DEFINITION. What the host may do to the core between bus calls (spec/00_scope.md R18): load a cartridge image,
reset, supply buttons, force PC for a test harness, take the cartridge out; and the machine at power-on, before any of
them (spec/70_reset_and_hazards.md R1500). -/

namespace Sys2Proof.Machine

/-- The draw `POWER_ON_STATE` (R11, D5): every register and RAM byte before anything writes it. A draw is an argument
of `powerOn`, for the registers and the console's memories, and of `hostLoad`, for the cartridge's RAM, so a statement
about every draw is a statement about every power-on. A byte buffer is drawn as the list of its bytes
(`Memory.drawn`, log 1). -/
structure PowerOnState where
  cpu : Cpu
  /-- The PPU's registers, its position and pipelines, and its palette; its byte buffers are drawn below. -/
  ppu : Ppu
  oam : List Byte
  secOam : List Byte
  ram : List Byte
  vram : List Byte
  /-- The bytes of a cartridge's CHR-RAM (R1203). -/
  chrRam : List Byte
  /-- The bytes of a cartridge's PRG-RAM (R1203). -/
  prgRam : List Byte
  clock : Nat
  strobe : Bool
  shift1 : Nat
  shift2 : Nat
  deriving DecidableEq, Repr

/-- The default of `POWER_ON_STATE`, which the spec's test vectors use: all zero (R11). -/
def PowerOnState.zero : PowerOnState where
  cpu := { Cpu.reset with sp := 0, p := 0, cycles := 0 }
  ppu := { Ppu.reset with scanline := 0 }
  oam := []
  secOam := []
  ram := []
  vram := []
  chrRam := []
  prgRam := []
  clock := 0
  strobe := false
  shift1 := 0
  shift2 := 0

/-- The core before the first load and reset (R1500): everything is as drawn, and no cartridge is in. The NMI callback
is registered (R129, log 14), no button is pressed (log 5), and no bus call has given a result or a pixel (log 6). -/
def powerOn (params : Params) (draw : PowerOnState) : State where
  cpu := draw.cpu
  ppu :=
    { draw.ppu with
      oam := Memory.drawn 256 draw.oam
      secOam := Memory.drawn 32 draw.secOam
      nmiCallbackRegistered := true }
  cart := none
  ram := Memory.drawn 2048 draw.ram
  vram := Memory.drawn 2048 draw.vram
  clock := draw.clock
  strobe := draw.strobe
  shift1 := draw.shift1
  shift2 := draw.shift2
  buttons1 := 0
  buttons2 := 0
  params := params
  result := .none
  pixel := none
  freeCount := 0

/-- Why a load fails (R1202). The spec asks for an explicit error status and names none: one status for each
condition, with the number refused, is the model's choice (log 18; DESIGN CHOICE). -/
inductive LoadError where
  | badMagic
  | unsupportedMapper (number : Nat)
  | fourScreen
  | noPrgBanks
  | truncated
  deriving DecidableEq, Repr

/-- The 16-byte header's fields (R1201). -/
structure Header where
  prgBanks : Nat
  chrBanks : Nat
  mirroring : Mirroring
  battery : Bool
  trainer : Bool
  fourScreen : Bool
  mapper : Nat
  /-- PRG-RAM size in 8KB units; 0 means 8KB. -/
  prgRamBanks : Nat
  deriving DecidableEq, Repr

/-- Byte `i` of an image. A byte that the image lacks reads as $00, which is the model's choice (log 18; DESIGN
CHOICE): an image shorter than its header fails in any case (R1202), and the zeros decide only with which status. -/
def imageByte (image : List Byte) (i : Nat) : Byte := image.getD i 0

/-- Bytes 0-3 are "NES" and $1A (R1201). -/
def hasMagic (image : List Byte) : Bool := image.take 4 == [0x4E, 0x45, 0x53, 0x1A]

/-- The header's fields, by byte offset (R1201). -/
def Header.ofImage (image : List Byte) : Header :=
  let b6 := imageByte image 6
  { prgBanks := (imageByte image 4).toNat
    chrBanks := (imageByte image 5).toNat
    mirroring := if b6.getLsbD 0 then .vertical else .horizontal
    battery := b6.getLsbD 1
    trainer := b6.getLsbD 2
    fourScreen := b6.getLsbD 3
    mapper := ((imageByte image 7 &&& 0xF0) ||| (b6 >>> 4)).toNat
    prgRamBanks := max 1 (imageByte image 8).toNat }

/-- Where PRG-ROM begins: after the header and the trainer, which is skipped (R1201, D41). -/
def Header.prgOffset (h : Header) : Nat := 16 + (if h.trainer then 512 else 0)

/-- Where CHR-ROM begins (R1201). -/
def Header.chrOffset (h : Header) : Nat := h.prgOffset + 16384 * h.prgBanks

/-- The number of bytes the header declares (R1202). -/
def Header.declared (h : Header) : Nat := h.chrOffset + 8192 * h.chrBanks

/-- Load an image (R1200-R1204): the cartridge with its buffers filled, its RAM as drawn, and its mapper initialised;
or why it is refused. When several conditions of R1202 hold, the status is that of the first in this order, which is
the model's choice (log 18; DESIGN CHOICE): the magic, the mapper number, four-screen, no PRG bank, a short image. -/
def loadImage (params : Params) (draw : PowerOnState) (image : List Byte) : Except LoadError Cartridge :=
  let h := Header.ofImage image
  if !hasMagic image then .error .badMagic
  else match Mapper.ofNumber h.mapper h.mirroring with
    | none => .error (.unsupportedMapper h.mapper)
    | some mapper =>
      if h.fourScreen then .error .fourScreen
      else if h.prgBanks = 0 then .error .noPrgBanks
      else if image.length < h.declared then .error .truncated
      else .ok
        { prgBanks := h.prgBanks
          prgRom := Memory.ofBytes ((image.drop h.prgOffset).take (16384 * h.prgBanks))
          chrBanks := h.chrBanks
          chr :=
            if h.chrBanks = 0 then Memory.drawn 8192 draw.chrRam
            else Memory.ofBytes ((image.drop h.chrOffset).take (8192 * h.chrBanks))
          prgRam :=
            if h.battery || params.prgRamWithoutBattery then some (Memory.drawn (8192 * h.prgRamBanks) draw.prgRam)
            else none
          prgRamBanks := h.prgRamBanks
          mirroring := h.mirroring
          battery := h.battery
          mapper := mapper }

/-- The host's load (R18 (a)), with the draw of the cartridge's RAM: a failed load leaves no cartridge (R1202). R18
allows it before reset only. The function answers in any state: there the cartridge is changed and nothing else is,
which is the model's choice and stands for no behaviour of the hardware (log 17; DESIGN CHOICE). -/
def hostLoad (draw : PowerOnState) (image : List Byte) (s : State) : State × Option LoadError :=
  match loadImage s.params draw image with
  | .ok c => ({ s with cart := some c }, none)
  | .error e => ({ s with cart := none }, some e)

/-- Teardown (R1271): the cartridge record is freed. -/
def teardown (s : State) : State := { s with cart := none }

/-- The host's button state for the two ports (R18 (d), R1330). -/
def setButtons (b1 b2 : Byte) (s : State) : State := { s with buttons1 := b1, buttons2 := b2 }

/-- A test harness writes PC (R18 (h), R1511). R18 allows it after reset and before the first bus call only. The
function answers in any state: there PC is changed and nothing else is, which is the model's choice and stands for no
behaviour of the hardware (log 17; DESIGN CHOICE). -/
def forcePc (pc : Word) (s : State) : State := s.setPc pc

/-- Reset of the PPU (R1501 step 3): OAM, secondary OAM and palette keep their contents (R1503). -/
def Ppu.hostReset (p : Ppu) : Ppu :=
  { Ppu.reset with
    oam := p.oam
    secOam := p.secOam
    palette := p.palette
    nmiCallbackRegistered := p.nmiCallbackRegistered }

/-- Reset of the CPU but for PC, which is read last (R1501 step 4). -/
def Cpu.hostReset (params : Params) (pc : Word) : Cpu := { Cpu.reset with p := params.resetP, pc := pc }

/-- The host's reset (R18 (b), R1501): mapper, bus, PPU, CPU, and last the word at the reset vector into PC. -/
def hostReset (s : State) : State :=
  let s1 : State :=
    { s with
      cart := s.cart.map Cartridge.resetMapper
      clock := 0
      strobe := false
      shift1 := 0
      shift2 := 0
      ppu := s.ppu.hostReset
      cpu := Cpu.hostReset s.params s.cpu.pc
      result := .none
      pixel := none }
  (s1.afterRead16 resetVector).setPc (s1.read16 resetVector)

end Sys2Proof.Machine
end

