-- ==== Sys2Proof/Safety.lean ====
section
/-! DEFINITION. The terms that claims use: the operand of a row, the cycle count of a row, the memory cells of the
machine and which of them an access stores to, what the machine keeps true of itself, and what a safe run is. -/

namespace Sys2Proof

/-- The operand that a row's instruction reads, if its format has one (R400). -/
def Operand.source : Operand → Option Machine.Source
  | .imm b => some (.imm b)
  | .mem m => some (.mem m)
  | .imp | .acc | .rel _ | .ind _ => none

/-- The addressing modes of the table (R301), without their operands. -/
inductive AddressingMode where
  | imp
  | acc
  | imm
  | zp
  | zpX
  | zpY
  | abs
  | absX
  | absY
  | izx
  | izy
  | ind
  | rel
  deriving DecidableEq, Repr

/-- The addressing mode of a descriptor (R303). -/
def Operand.addressing : Operand → AddressingMode
  | .imp => .imp
  | .acc => .acc
  | .imm _ => .imm
  | .mem (.zp _) => .zp
  | .mem (.zpX _) => .zpX
  | .mem (.zpY _) => .zpY
  | .mem (.abs _) => .abs
  | .mem (.absX _) => .absX
  | .mem (.absY _) => .absY
  | .mem (.izx _) => .izx
  | .mem (.izy _) => .izy
  | .ind _ => .ind
  | .rel _ => .rel

/-- The addressing mode of a row's memory operand, if it has one (R400). -/
def Operand.mode : Operand → Option MemMode
  | .mem m => some m
  | .imp | .acc | .imm _ | .rel _ | .ind _ => none

/-- What a read-modify-write row works on (R700). -/
def Operand.target : Operand → Option Machine.Target
  | .acc => some .acc
  | .mem m => some (.mem m)
  | .imp | .imm _ | .rel _ | .ind _ => none

/-- The cycles of a row (R311, R420): its base count, and one more when it has the flag and its mode reports a page
cross. -/
def Instr.cycles (i : Instr) (crossed : Bool) : Nat := i.row.base + (if i.row.pageCross && crossed then 1 else 0)

/-- The 29 opcode bytes without a descriptor (R330). -/
def unknownOpcodes : List Byte :=
  [0x02, 0x0B, 0x12, 0x22, 0x2B, 0x32, 0x42, 0x4B, 0x52, 0x62] ++
  [0x6B, 0x72, 0x82, 0x89, 0x8B, 0x92, 0x93, 0x9B, 0x9C, 0x9E] ++
  [0x9F, 0xAB, 0xB2, 0xBB, 0xC2, 0xCB, 0xD2, 0xE2, 0xF2]

end Sys2Proof

namespace Sys2Proof.Machine

/-- The memories of the machine (R125, R126, R127, R140, R160). -/
inductive Space where
  | ram
  | vram
  | oam
  | secOam
  | palette
  | prgRom
  | prgRam
  | chr
  deriving DecidableEq, Repr

/-- One byte of a memory, read without side effect. A palette entry is 6 bits, zero-extended (R1101). -/
def State.byteAt (s : State) (sp : Space) (i : Nat) : Byte :=
  match sp with
  | .ram => s.ram.read i
  | .vram => s.vram.read i
  | .oam => s.ppu.oam.read i
  | .secOam => s.ppu.secOam.read i
  | .palette => (s.ppu.palette[i]?.getD 0).setWidth 8
  | .prgRom => match s.cart with
    | some c => c.prgRom.read i
    | none => 0
  | .prgRam => match s.cart.bind (fun c => c.prgRam) with
    | some m => m.read i
    | none => 0
  | .chr => match s.cart with
    | some c => c.chr.read i
    | none => 0

/-- The cells that a write at a PPU address stores to (R1101, R1102, R1210). -/
def State.ppuStoresTo (s : State) (a : BitVec 14) (sp : Space) (i : Nat) : Bool :=
  if 0x3F00 ≤ a.toNat then sp == .palette && i == (palIndex a).toNat
  else match s.cart with
    | none => false
    | some c =>
      if a.toNat < 0x2000 then sp == .chr && c.chrIsRam && i == c.chrIndex a
      else sp == .vram && i == c.vramIndex a

/-- The cells that a CPU write at `a` stores to (R1311): one byte of work RAM or PRG-RAM; through OAMDATA one byte of
OAM, through PPUDATA one byte of the PPU's address space; by OAM DMA the whole of OAM. -/
def State.storesTo (s : State) (a : Word) (sp : Space) (i : Nat) : Bool :=
  if a.toNat ≤ 0x1FFF then sp == .ram && i == a.toNat % 0x800
  else if a.toNat ≤ 0x3FFF then
    match a.toNat % 8 with
    | 4 => sp == .oam && !s.ppu.rendering && i == s.ppu.oamAddr.toNat
    | 7 => s.ppuStoresTo s.ppu.dataAddr sp i
    | _ => false
  else if a = 0x4014 then sp == .oam && decide (i < 256)
  else if 0x6000 ≤ a.toNat ∧ a.toNat ≤ 0x7FFF then sp == .prgRam && i == a.toNat % 0x2000
  else false

/-- `n` reads of one CPU address. -/
def State.afterReads (s : State) (a : Word) : Nat → State
  | 0 => s
  | n + 1 => (s.afterReads a n).afterRead a

/-- `n` CPU steps, the bus's other agents left out (R440). -/
def cpuSteps (s : State) : Nat → Result
  | 0 => .next s
  | n + 1 =>
    match cpuSteps s n with
    | .next t => cpuStep t
    | .fault f => .fault f
    | .refused r => .refused r

/-- A CPU step that begins an instruction: nothing is in flight and nothing takes its place (the order of R1425: the fault
latch, an NMI, an unmasked IRQ). -/
structure State.AtFetch (s : State) : Prop where
  running : s.cpu.halted = false
  done : s.cpu.cycles = 0
  noNmi : s.cpu.nmiPending = false
  noIrq : (s.irqLine && !flagI s.cpu.p) = false

/-- P as stored has B = 0 and U = 1 (R103). -/
def Cpu.Inv (c : Cpu) : Prop := flagB c.p = false ∧ flagU c.p = true

/-- A buffer of `size` bytes in canonical form. -/
def Memory.Inv (size : Nat) (m : Memory) : Prop := m.wf = true ∧ m.bounded size = true

/-- The PPU's ranges (R124, R126, R128) and its buffers (R125, R126). -/
structure Ppu.Inv (p : Ppu) : Prop where
  scanline_low : -1 ≤ p.scanline
  scanline_high : p.scanline ≤ 260
  dot_high : p.dot ≤ 340
  secCount_high : p.secCount ≤ 8
  sprCount_high : p.sprCount ≤ 8
  oam : p.oam.Inv 256
  secOam : p.secOam.Inv 32

/-- The MMC3's bank registers hold no bit that R1240 discards: R0 and R1 are even, R6 and R7 below 64. -/
structure Mmc3.Inv (m : Mmc3) : Prop where
  r0_even : m.regs[0].getLsbD 0 = false
  r1_even : m.regs[1].getLsbD 0 = false
  r6_low : m.regs[6].toNat < 64
  r7_low : m.regs[7].toNat < 64

/-- The private state of a variant (R141). -/
def Mapper.Inv : Mapper → Prop
  | .nrom | .uxrom _ | .cnrom _ | .gxrom _ _ => True
  | .mmc3 m => m.Inv

/-- A cartridge as a load leaves it (R140, R1201-R1203): at least one PRG bank, and buffers of their sizes. -/
structure Cartridge.Inv (c : Cartridge) : Prop where
  prgBanks_pos : 1 ≤ c.prgBanks
  prgRamBanks_pos : 1 ≤ c.prgRamBanks
  prgRom : c.prgRom.Inv c.prgSize
  chr : c.chr.Inv c.chrSize
  prgRam : ∀ m, c.prgRam = some m → m.Inv c.prgRamSize
  mapper : c.mapper.Inv

/-- The whole machine. -/
structure State.Inv (s : State) : Prop where
  cpu : s.cpu.Inv
  ppu : s.ppu.Inv
  cart : ∀ c, s.cart = some c → c.Inv
  ram : s.ram.Inv 2048
  vram : s.vram.Inv 2048
  shift1_high : s.shift1 ≤ 8
  shift2_high : s.shift2 ≤ 8

/-- The host may call `bus.cycle()`: a cartridge is in the machine (R1202, R1271). -/
def State.Ready (s : State) : Prop := s.cart.isSome = true

/-- The machine has met no unknown opcode (R1402). -/
def State.Running (s : State) : Prop := s.cpu.halted = false

/-- A safe run of `n` bus calls: no call stops, and no CPU step fails. -/
def SafeRun (s : State) : Nat → Prop
  | 0 => s.Running
  | n + 1 => s.Running ∧ ∃ t, step s = .next t ∧ SafeRun t n

end Sys2Proof.Machine
end

