-- ==== Sys2Proof/Certificates/Slice0/Obligations.lean ====
section
/-! DEFINITION. The statements for the provers, each with the rules of spec/ it formalises. -/

open Sys2Proof Sys2Proof.Machine

/-- Decoding the encoding of any instruction gives it back (30_encoding.md R300, 30_encoding.md R301, 30_encoding.md
R302, 30_encoding.md R310, 30_encoding.md R311). That the decoder takes a list and returns the rest, and that a null
row is one byte, is the model's choice (log 11). -/
def Obligations.DecodeOfEncode : Prop :=
  ∀ (i : Instr) (rest : List Byte), decode (encode i ++ rest) = .ok (i, rest)

/-- What decodes is the encoding of what it decodes to (30_encoding.md R300, 30_encoding.md R301, 30_encoding.md
R302, 30_encoding.md R303). That the decoder takes a list and returns the rest, and that a null row is one byte, is
the model's choice (log 11). -/
def Obligations.EncodeOfDecode : Prop :=
  ∀ (bytes rest : List Byte) (i : Instr), decode bytes = .ok (i, rest) → encode i ++ rest = bytes

/-- Decoding is total, and the opcode byte alone fixes the descriptor, its addressing mode and the length
(30_encoding.md R300, 30_encoding.md R301, 30_encoding.md R303). That the decoder takes a list and returns the rest
is the model's choice (log 11), and so is that a row without a descriptor is decoded, as the constructor of its byte
with mnemonic unknown (log 10). -/
def Obligations.OpcodeByteFixesRow : Prop :=
  (∀ (op b1 b2 : Byte) (r : List Byte),
    ∃ i rest, decode (op :: b1 :: b2 :: r) = .ok (i, rest) ∧ i.row.opcode = op ∧
      (i.mnemonic ≠ .unknown → rest = (op :: b1 :: b2 :: r).drop i.length)) ∧
  (∀ i j : Instr, i.row.opcode = j.row.opcode →
    i.mnemonic = j.mnemonic ∧ i.row.operand.addressing = j.row.operand.addressing ∧ i.row.base = j.row.base ∧
    i.row.pageCross = j.row.pageCross ∧ i.length = j.length) ∧
  (∀ i : Instr, i.mnemonic ≠ .unknown →
    i.length = match i.row.operand.addressing with
      | .imp | .acc => 1
      | .imm | .zp | .zpX | .zpY | .izx | .izy | .rel => 2
      | .abs | .absX | .absY | .ind => 3)

/-- The unknown opcodes are exactly the 29 bytes of R330 (30_encoding.md R330, 30_encoding.md R331). That a row
without a descriptor is a term that WellFormed refuses is the model's choice (log 10). -/
def Obligations.UnknownOpcodeBytes : Prop :=
  ∀ i : Instr,
    (i.wellFormed = false ↔ i.row.opcode ∈ unknownOpcodes) ∧ (i.mnemonic = .unknown ↔ i.row.opcode ∈ unknownOpcodes)

/-- A few words written from the encoding tables decode to what they stand for (30_encoding.md R301, 30_encoding.md
R302, 30_encoding.md R311, 30_encoding.md R330). The list and its rest are the model's choice in every clause (log
11); in the last clause, that the null row $02 is decoded, as a constructor, and takes one byte is the model's
choice too (log 10, log 11). -/
def Obligations.DecodeOfWrittenWords : Prop :=
  decode [0xA9, 0x42] = .ok (.ldaImm 0x42, []) ∧
  decode [0x8D, 0x00, 0x02] = .ok (.staAbs 0x0200, []) ∧
  decode [0x71, 0x10] = .ok (.adcIzy 0x10, []) ∧
  decode [0x0A] = .ok (.aslAcc, []) ∧
  decode [0x1B, 0x00, 0x02] = .ok (.sloAbsy 0x0200, []) ∧
  decode [0xD0, 0xFC] = .ok (.bne 0xFC, []) ∧
  decode [0x6C, 0xFF, 0x02] = .ok (.jmpInd 0x02FF, []) ∧
  decode [0x20, 0x00, 0x90] = .ok (.jsr 0x9000, []) ∧
  decode [0x08] = .ok (.php, []) ∧
  decode [0x18] = .ok (.clc, []) ∧
  decode [0x1C, 0x34, 0x12] = .ok (.nopAbsx1C 0x1234, []) ∧
  decode [0x02] = .ok (.unknown02, [])

/-- Operands: the effective address, the page cross and the one access of each mode (R404, R405, R406, R407, R408,
R409, R403). -/
def Obligations.EffectiveAddressOfMode : Prop :=
  ∀ (s : State) (b : Byte) (w : Word),
    let x := s.cpu.x.toNat
    let y := s.cpu.y.toNat
    let pointer (n : Nat) : Nat := 256 * (s.ram.read ((n + 1) % 256)).toNat + (s.ram.read n).toNat
    let ea (m : MemMode) : Nat := (effAddr m s).toNat
    (ea (.zp b) = b.toNat ∧ pageCrossed (.zp b) s = false) ∧
    (ea (.zpX b) = (b.toNat + x) % 256 ∧ pageCrossed (.zpX b) s = false) ∧
    (ea (.zpY b) = (b.toNat + y) % 256 ∧ pageCrossed (.zpY b) s = false) ∧
    (ea (.abs w) = w.toNat ∧ pageCrossed (.abs w) s = false) ∧
    (ea (.absX w) = (w.toNat + x) % 65536 ∧
      (pageCrossed (.absX w) s = true ↔ (w.toNat + x) % 65536 / 256 ≠ w.toNat / 256)) ∧
    (ea (.absY w) = (w.toNat + y) % 65536 ∧
      (pageCrossed (.absY w) s = true ↔ (w.toNat + y) % 65536 / 256 ≠ w.toNat / 256)) ∧
    (ea (.izx b) = pointer ((b.toNat + x) % 256) ∧ pageCrossed (.izx b) s = false) ∧
    (ea (.izy b) = (pointer b.toNat + y) % 65536 ∧
      (pageCrossed (.izy b) s = true ↔ (pointer b.toNat + y) % 65536 / 256 ≠ pointer b.toNat / 256)) ∧
    (∀ m, (Source.mem m).value s = s.busRead (effAddr m s) ∧ (Source.mem m).after s = s.afterRead (effAddr m s) ∧
      (Source.mem m).crossed s = pageCrossed m s) ∧
    ((Source.imm b).value s = b ∧ (Source.imm b).after s = s ∧ (Source.imm b).crossed s = false)

/-- LDA, LDX, LDY and LAX: the whole next state, in every form (41_load_store_transfer.md R510,
41_load_store_transfer.md R511, 41_load_store_transfer.md R512, 41_load_store_transfer.md R516,
40_addressing_and_cycle.md R420). -/
def Obligations.LoadResult : Prop :=
  ∀ (i : Instr) (s : State) (o : Source), i.row.operand.source = some o →
    let v := o.value s
    let done (c : Cpu) : State :=
      { o.after s with
        cpu := { c with
          p := nzOf s.cpu.p v
          cycles := i.cycles (o.crossed s) + s.cpu.dmaStall
          dmaStall := 0 } }
    (i.mnemonic = .lda → exec i s = .next (done { s.cpu with a := v })) ∧
    (i.mnemonic = .ldx → exec i s = .next (done { s.cpu with x := v })) ∧
    (i.mnemonic = .ldy → exec i s = .next (done { s.cpu with y := v })) ∧
    (i.mnemonic = .lax → exec i s = .next (done { s.cpu with a := v, x := v }))

/-- STA, STX, STY and SAX: the whole next state, in every form (41_load_store_transfer.md R513,
41_load_store_transfer.md R514, 41_load_store_transfer.md R515, 41_load_store_transfer.md R517, 20_memory.md R223,
40_addressing_and_cycle.md R420). -/
def Obligations.StoreResult : Prop :=
  ∀ (i : Instr) (s : State) (m : MemMode), i.row.operand.mode = some m →
    let done (v : Byte) : State :=
      { s.busWrite (effAddr m s) v with
        cpu := { (s.busWrite (effAddr m s) v).cpu with
          cycles := i.row.base + (s.busWrite (effAddr m s) v).cpu.dmaStall
          dmaStall := 0 } }
    (i.mnemonic = .sta → exec i s = .next (done s.cpu.a)) ∧
    (i.mnemonic = .stx → exec i s = .next (done s.cpu.x)) ∧
    (i.mnemonic = .sty → exec i s = .next (done s.cpu.y)) ∧
    (i.mnemonic = .sax → exec i s = .next (done (s.cpu.a &&& s.cpu.x)))

/-- TAX, TAY, TXA, TYA, TSX and TXS: encoding and whole next state (R520, R521, R522, R523, R524, R525). -/
def Obligations.TransferResult : Prop :=
  encode .tax = [0xAA] ∧ encode .tay = [0xA8] ∧ encode .txa = [0x8A] ∧ encode .tya = [0x98] ∧
  encode .tsx = [0xBA] ∧ encode .txs = [0x9A] ∧
  ∀ s : State,
    let done (c : Cpu) : State := { s with cpu := { c with cycles := 2 + s.cpu.dmaStall, dmaStall := 0 } }
    exec .tax s = .next (done { s.cpu with x := s.cpu.a, p := nzOf s.cpu.p s.cpu.a }) ∧
    exec .tay s = .next (done { s.cpu with y := s.cpu.a, p := nzOf s.cpu.p s.cpu.a }) ∧
    exec .txa s = .next (done { s.cpu with a := s.cpu.x, p := nzOf s.cpu.p s.cpu.x }) ∧
    exec .tya s = .next (done { s.cpu with a := s.cpu.y, p := nzOf s.cpu.p s.cpu.y }) ∧
    exec .tsx s = .next (done { s.cpu with x := s.cpu.sp, p := nzOf s.cpu.p s.cpu.sp }) ∧
    exec .txs s = .next (done { s.cpu with sp := s.cpu.x })

/-- PHA, PHP, PLA and PLP: encoding and whole next state (R530, R531, R532, R533). -/
def Obligations.StackInstructionResult : Prop :=
  encode .pha = [0x48] ∧ encode .php = [0x08] ∧ encode .pla = [0x68] ∧ encode .plp = [0x28] ∧
  ∀ s : State,
    let top := 0x100 + s.cpu.sp.toNat
    let sp1 := s.cpu.sp + 1
    let v := s.ram.read (0x100 + sp1.toNat)
    let done (n : Nat) (c : Cpu) (m : Memory) : State :=
      { s with ram := m, cpu := { c with cycles := n + s.cpu.dmaStall, dmaStall := 0 } }
    exec .pha s = .next (done 3 { s.cpu with sp := s.cpu.sp - 1 } (s.ram.write top s.cpu.a)) ∧
    exec .php s = .next (done 3 { s.cpu with sp := s.cpu.sp - 1 } (s.ram.write top (s.cpu.p ||| 0x30))) ∧
    exec .pla s = .next (done 4 { s.cpu with sp := sp1, a := v, p := nzOf s.cpu.p v } s.ram) ∧
    exec .plp s = .next (done 4 { s.cpu with sp := sp1, p := (v &&& 0xCF) ||| 0x20 } s.ram)

/-- AddWithCarry and SetNZ, bit by bit (R601). -/
def Obligations.AddWithCarryHelper : Prop :=
  (∀ (p v : Byte) (k : Nat),
    ((nzOf p v).getLsbD 7 = v.getLsbD 7) ∧ ((nzOf p v).getLsbD 1 = decide (v = 0)) ∧
    (k ≠ 1 → k ≠ 7 → (nzOf p v).getLsbD k = p.getLsbD k)) ∧
  ∀ (s : State) (m : Byte),
    let c : Nat := if flagC s.cpu.p then 1 else 0
    let sum := s.cpu.a.toNat + m.toNat + c
    let t := s.addWithCarry m
    t = { s with cpu := { s.cpu with a := BitVec.ofNat 8 sum, p := t.cpu.p } } ∧
    (flagC t.cpu.p = true ↔ 0xFF < sum) ∧
    (flagV t.cpu.p = (~~~(s.cpu.a ^^^ m) &&& (s.cpu.a ^^^ BitVec.ofNat 8 sum)).getLsbD 7) ∧
    (flagV t.cpu.p = true ↔
      (s.cpu.a.getLsbD 7 = m.getLsbD 7 ∧ (BitVec.ofNat 8 sum).getLsbD 7 ≠ s.cpu.a.getLsbD 7)) ∧
    (flagV t.cpu.p = true ↔ (s.cpu.a.toInt + m.toInt + c < -128 ∨ 127 < s.cpu.a.toInt + m.toInt + c)) ∧
    (flagN t.cpu.p = (BitVec.ofNat 8 sum).getLsbD 7) ∧
    (flagZ t.cpu.p = true ↔ sum % 256 = 0) ∧
    (∀ k, k ≠ 0 → k ≠ 1 → k ≠ 6 → k ≠ 7 → t.cpu.p.getLsbD k = s.cpu.p.getLsbD k)

/-- ADC and SBC: the whole next state, in every form (42_arith_logic.md R610, 42_arith_logic.md R611,
42_arith_logic.md R601, 40_addressing_and_cycle.md R420). -/
def Obligations.AddSubtractResult : Prop :=
  ∀ (i : Instr) (s : State) (o : Source), i.row.operand.source = some o →
    let done (m : Byte) : State :=
      { (o.after s).addWithCarry m with
        cpu := { ((o.after s).addWithCarry m).cpu with
          cycles := i.cycles (o.crossed s) + s.cpu.dmaStall
          dmaStall := 0 } }
    (i.mnemonic = .adc → exec i s = .next (done (o.value s))) ∧
    (i.mnemonic = .sbc → exec i s = .next (done (o.value s ^^^ 0xFF)))

/-- SBC is A - m - (1 - C), with C as no borrow and V as signed overflow (42_arith_logic.md R611, 42_arith_logic.md
R600). -/
def Obligations.SubtractIsBorrowSubtract : Prop :=
  ∀ (i : Instr) (s : State) (o : Source), i.row.operand.source = some o → i.mnemonic = .sbc →
    let m := o.value s
    let b : Nat := if flagC s.cpu.p then 0 else 1
    ∃ t, exec i s = .next t ∧
      t.cpu.a = s.cpu.a - m - BitVec.ofNat 8 b ∧
      (flagC t.cpu.p = true ↔ m.toNat + b ≤ s.cpu.a.toNat) ∧
      (flagV t.cpu.p = true ↔ (s.cpu.a.toInt - m.toInt - b < -128 ∨ 127 < s.cpu.a.toInt - m.toInt - b))

/-- AND, ORA, EOR and BIT: the whole next state, in every form (42_arith_logic.md R620, 42_arith_logic.md R621,
42_arith_logic.md R622, 42_arith_logic.md R623, 40_addressing_and_cycle.md R420). -/
def Obligations.LogicResult : Prop :=
  ∀ (i : Instr) (s : State) (o : Source), i.row.operand.source = some o →
    let v := o.value s
    let done (a p : Byte) : State :=
      { o.after s with
        cpu := { s.cpu with
          a := a
          p := p
          cycles := i.cycles (o.crossed s) + s.cpu.dmaStall
          dmaStall := 0 } }
    (i.mnemonic = .and_ → exec i s = .next (done (s.cpu.a &&& v) (nzOf s.cpu.p (s.cpu.a &&& v)))) ∧
    (i.mnemonic = .ora → exec i s = .next (done (s.cpu.a ||| v) (nzOf s.cpu.p (s.cpu.a ||| v)))) ∧
    (i.mnemonic = .eor → exec i s = .next (done (s.cpu.a ^^^ v) (nzOf s.cpu.p (s.cpu.a ^^^ v)))) ∧
    (i.mnemonic = .bit → ∃ p, exec i s = .next (done s.cpu.a p) ∧
      flagZ p = decide (s.cpu.a &&& v = 0) ∧ flagN p = v.getLsbD 7 ∧ flagV p = v.getLsbD 6 ∧
      ∀ k, k ≠ 1 → k ≠ 6 → k ≠ 7 → p.getLsbD k = s.cpu.p.getLsbD k)

/-- CMP, CPX and CPY: the whole next state, in every form (42_arith_logic.md R602, 42_arith_logic.md R630,
42_arith_logic.md R631, 42_arith_logic.md R632, 40_addressing_and_cycle.md R420). -/
def Obligations.CompareResult : Prop :=
  ∀ (i : Instr) (s : State) (o : Source), i.row.operand.source = some o →
    let v := o.value s
    let compares (r : Byte) : Prop :=
      ∃ p, exec i s = .next
          { o.after s with
            cpu := { s.cpu with
              p := p
              cycles := i.cycles (o.crossed s) + s.cpu.dmaStall
              dmaStall := 0 } } ∧
        flagC p = decide (v.toNat ≤ r.toNat) ∧ flagZ p = decide (r = v) ∧ flagN p = (r - v).getLsbD 7 ∧
        ∀ k, k ≠ 0 → k ≠ 1 → k ≠ 7 → p.getLsbD k = s.cpu.p.getLsbD k
    (i.mnemonic = .cmp → compares s.cpu.a) ∧ (i.mnemonic = .cpx → compares s.cpu.x) ∧
    (i.mnemonic = .cpy → compares s.cpu.y)

/-- INX, INY, DEX and DEY: encoding and whole next state (R642, R643, R644, R645). -/
def Obligations.RegisterIncrementResult : Prop :=
  encode .inx = [0xE8] ∧ encode .iny = [0xC8] ∧ encode .dex = [0xCA] ∧ encode .dey = [0x88] ∧
  ∀ s : State,
    let done (c : Cpu) (v : Byte) : State :=
      { s with cpu := { c with p := nzOf s.cpu.p v, cycles := 2 + s.cpu.dmaStall, dmaStall := 0 } }
    exec .inx s = .next (done { s.cpu with x := s.cpu.x + 1 } (s.cpu.x + 1)) ∧
    exec .iny s = .next (done { s.cpu with y := s.cpu.y + 1 } (s.cpu.y + 1)) ∧
    exec .dex s = .next (done { s.cpu with x := s.cpu.x - 1 } (s.cpu.x - 1)) ∧
    exec .dey s = .next (done { s.cpu with y := s.cpu.y - 1 } (s.cpu.y - 1))

/-- ASL, LSR, ROL, ROR, INC and DEC on memory: the whole next state (43_shift_rmw.md R700, 43_shift_rmw.md R710,
43_shift_rmw.md R711, 43_shift_rmw.md R712, 43_shift_rmw.md R713, 42_arith_logic.md R640, 42_arith_logic.md R641,
20_memory.md R222). -/
def Obligations.MemoryShiftResult : Prop :=
  ∀ (i : Instr) (s : State) (m : MemMode), i.row.operand.mode = some m →
    let ea := effAddr m s
    let v := s.busRead ea
    let c : Byte := if flagC s.cpu.p then 1 else 0
    let written (r : Byte) : State := ((s.afterRead ea).busWrite ea v).busWrite ea r
    let done (r p : Byte) : State :=
      { written r with
        cpu := { (written r).cpu with
          p := nzOf p r
          cycles := i.row.base + (written r).cpu.dmaStall
          dmaStall := 0 } }
    let p := s.cpu.p
    (i.mnemonic = .asl → exec i s = .next (done (v <<< 1) (withC p (v.getLsbD 7)))) ∧
    (i.mnemonic = .lsr → exec i s = .next (done (v >>> 1) (withC p (v.getLsbD 0)))) ∧
    (i.mnemonic = .rol → exec i s = .next (done ((v <<< 1) ||| c) (withC p (v.getLsbD 7)))) ∧
    (i.mnemonic = .ror → exec i s = .next (done ((v >>> 1) ||| (c <<< 7)) (withC p (v.getLsbD 0)))) ∧
    (i.mnemonic = .inc → exec i s = .next (done (v + 1) p)) ∧
    (i.mnemonic = .dec → exec i s = .next (done (v - 1) p))

/-- ASL, LSR, ROL and ROR on the accumulator: the whole next state (40_addressing_and_cycle.md R402, 43_shift_rmw.md
R700, 43_shift_rmw.md R710, 43_shift_rmw.md R711, 43_shift_rmw.md R712, 43_shift_rmw.md R713). -/
def Obligations.AccumulatorShiftResult : Prop :=
  ∀ s : State,
    let a := s.cpu.a
    let c : Byte := if flagC s.cpu.p then 1 else 0
    let done (r : Byte) (out : Bool) : State :=
      { s with
        cpu := { s.cpu with
          a := r
          p := nzOf (withC s.cpu.p out) r
          cycles := 2 + s.cpu.dmaStall
          dmaStall := 0 } }
    exec .aslAcc s = .next (done (a <<< 1) (a.getLsbD 7)) ∧
    exec .lsrAcc s = .next (done (a >>> 1) (a.getLsbD 0)) ∧
    exec .rolAcc s = .next (done ((a <<< 1) ||| c) (a.getLsbD 7)) ∧
    exec .rorAcc s = .next (done ((a >>> 1) ||| (c <<< 7)) (a.getLsbD 0))

/-- SLO, RLA, SRE, RRA, DCP and ISB: the whole next state (43_shift_rmw.md R720, 43_shift_rmw.md R721,
43_shift_rmw.md R722, 43_shift_rmw.md R723, 43_shift_rmw.md R724, 43_shift_rmw.md R725, 20_memory.md R222,
42_arith_logic.md R601, 42_arith_logic.md R602). -/
def Obligations.CombinedModifyResult : Prop :=
  ∀ (i : Instr) (s : State) (m : MemMode), i.row.operand.mode = some m →
    let ea := effAddr m s
    let v := s.busRead ea
    let a := s.cpu.a
    let c : Byte := if flagC s.cpu.p then 1 else 0
    let written (r p : Byte) : State := (((s.afterRead ea).busWrite ea v).busWrite ea r).setP p
    let counted (t : State) : State :=
      { t with cpu := { t.cpu with cycles := i.row.base + t.cpu.dmaStall, dmaStall := 0 } }
    let intoA (t : State) (r : Byte) : State := { t with cpu := { t.cpu with a := r, p := nzOf t.cpu.p r } }
    let p := s.cpu.p
    (i.mnemonic = .slo →
      exec i s = .next (counted (intoA (written (v <<< 1) (withC p (v.getLsbD 7))) (a ||| (v <<< 1))))) ∧
    (i.mnemonic = .rla →
      exec i s = .next (counted
        (intoA (written ((v <<< 1) ||| c) (withC p (v.getLsbD 7))) (a &&& ((v <<< 1) ||| c))))) ∧
    (i.mnemonic = .sre →
      exec i s = .next (counted (intoA (written (v >>> 1) (withC p (v.getLsbD 0))) (a ^^^ (v >>> 1))))) ∧
    (i.mnemonic = .rra →
      exec i s = .next (counted
        ((written ((v >>> 1) ||| (c <<< 7)) (withC p (v.getLsbD 0))).addWithCarry ((v >>> 1) ||| (c <<< 7))))) ∧
    (i.mnemonic = .dcp → exec i s = .next (counted ((written (v - 1) p).setP (compareFlags p a (v - 1))))) ∧
    (i.mnemonic = .isb →
      exec i s = .next (counted ((written (v + 1) p).addWithCarry ((v + 1) ^^^ 0xFF))))

/-- The eight conditional branches: encoding, condition, target and cycles (R815, R820, R821, R822, R823, R824,
R825, R826, R827). -/
def Obligations.BranchResult : Prop :=
  ∀ (s : State) (off : Byte),
    let branch (i : Instr) (op : Byte) (taken : Bool) : Prop :=
      encode i = [op, off] ∧
      exec i s = .next
        (if taken then
          { s with
            cpu := { s.cpu with
              pc := BitVec.ofInt 16 (s.cpu.pc.toNat + off.toInt)
              cycles := (if BitVec.toNat (BitVec.ofInt 16 (s.cpu.pc.toNat + off.toInt)) / 256 = s.cpu.pc.toNat / 256
                then 3 else 4) + s.cpu.dmaStall
              dmaStall := 0 } }
        else { s with cpu := { s.cpu with cycles := 2 + s.cpu.dmaStall, dmaStall := 0 } })
    branch (.bpl off) 0x10 (!flagN s.cpu.p) ∧ branch (.bmi off) 0x30 (flagN s.cpu.p) ∧
    branch (.bvc off) 0x50 (!flagV s.cpu.p) ∧ branch (.bvs off) 0x70 (flagV s.cpu.p) ∧
    branch (.bcc off) 0x90 (!flagC s.cpu.p) ∧ branch (.bcs off) 0xB0 (flagC s.cpu.p) ∧
    branch (.bne off) 0xD0 (!flagZ s.cpu.p) ∧ branch (.beq off) 0xF0 (flagZ s.cpu.p)

/-- JMP, JMP (ind), JSR and RTS: the whole next state (44_control_flow.md R830, 40_addressing_and_cycle.md R410,
44_control_flow.md R831, 44_control_flow.md R832, 44_control_flow.md R810). -/
def Obligations.JumpResult : Prop :=
  ∀ (s : State) (a : Word),
    let high : Word := BitVec.ofNat 16 (a.toNat / 256 * 256 + (a.toNat + 1) % 256)
    let ret : Word := s.cpu.pc - 1
    let sp := s.cpu.sp
    let done (t : State) (n : Nat) (c : Cpu) : State := { t with cpu := { c with cycles := n + s.cpu.dmaStall, dmaStall := 0 } }
    exec (.jmpAbs a) s = .next (done s 3 { s.cpu with pc := a }) ∧
    exec (.jmpInd a) s = .next (done ((s.afterRead a).afterRead high) 5
      { s.cpu with pc := wordOf (s.busRead a) ((s.afterRead a).busRead high) }) ∧
    exec (.jsr a) s = .next (done
      { s with ram := (s.ram.write (0x100 + sp.toNat) (hiByte ret)).write (0x100 + (sp - 1).toNat) (loByte ret) } 6
      { s.cpu with pc := a, sp := sp - 2 }) ∧
    exec .rts s = .next (done s 6
      { s.cpu with
        pc := wordOf (s.ram.read (0x100 + (sp + 1).toNat)) (s.ram.read (0x100 + (sp + 2).toNat)) + 1
        sp := sp + 2 })

/-- BRK and RTI: encoding and whole next state (R833, R834). -/
def Obligations.TrapAndReturnResult : Prop :=
  encode .brk = [0x00] ∧ encode .rti = [0x40] ∧
  ∀ s : State,
    let sp := s.cpu.sp
    let ret : Word := s.cpu.pc + 1
    exec .brk s = .next
      { s with
        ram := ((s.ram.write (0x100 + sp.toNat) (hiByte ret)).write (0x100 + (sp - 1).toNat) (loByte ret)).write
          (0x100 + (sp - 2).toNat) (s.cpu.p ||| 0x30)
        cpu := { s.cpu with
          sp := sp - 3
          p := s.cpu.p ||| 0x04
          pc := wordOf (s.busRead 0xFFFE) (s.busRead 0xFFFF)
          cycles := 7 + s.cpu.dmaStall
          dmaStall := 0 } } ∧
    exec .rti s = .next
      { s with
        cpu := { s.cpu with
          p := (s.ram.read (0x100 + (sp + 1).toNat) &&& 0xCF) ||| 0x20
          pc := wordOf (s.ram.read (0x100 + (sp + 2).toNat)) (s.ram.read (0x100 + (sp + 3).toNat))
          sp := sp + 3
          cycles := 6 + s.cpu.dmaStall
          dmaStall := 0 } }

/-- What a push, a call or BRK puts on the stack, the matching pull or return takes off (41_load_store_transfer.md
R530, 41_load_store_transfer.md R532, 44_control_flow.md R831, 44_control_flow.md R832, 44_control_flow.md R833,
44_control_flow.md R834). -/
def Obligations.StackRoundTrips : Prop :=
  ∀ (s : State) (a : Word),
    (∃ t, exec .pha s = .next t ∧ ∀ u : State, u.ram = t.ram → u.cpu.sp = t.cpu.sp →
      ∃ r, exec .pla u = .next r ∧ r.cpu.a = s.cpu.a ∧ r.cpu.sp = s.cpu.sp) ∧
    (∃ t, exec (.jsr a) s = .next t ∧ t.cpu.pc = a ∧ ∀ u : State, u.ram = t.ram → u.cpu.sp = t.cpu.sp →
      ∃ r, exec .rts u = .next r ∧ r.cpu.pc = s.cpu.pc ∧ r.cpu.sp = s.cpu.sp) ∧
    (∃ t, exec .brk s = .next t ∧ ∀ u : State, u.ram = t.ram → u.cpu.sp = t.cpu.sp →
      ∃ r, exec .rti u = .next r ∧ r.cpu.pc = s.cpu.pc + 1 ∧ r.cpu.p = (s.cpu.p &&& 0xCF) ||| 0x20 ∧
        r.cpu.sp = s.cpu.sp)

/-- CLC, SEC, CLI, SEI, CLV, CLD and SED: encoding and whole next state (R910, R911, R912, R913, R914, R915, R916).
-/
def Obligations.FlagInstructionResult : Prop :=
  encode .clc = [0x18] ∧ encode .sec = [0x38] ∧ encode .cli = [0x58] ∧ encode .sei = [0x78] ∧
  encode .clv = [0xB8] ∧ encode .cld = [0xD8] ∧ encode .sed = [0xF8] ∧
  ∀ s : State,
    let writes (i : Instr) (bit : Nat) (b : Bool) : Prop :=
      ∃ p, exec i s = .next { s with cpu := { s.cpu with p := p, cycles := 2 + s.cpu.dmaStall, dmaStall := 0 } } ∧
        p.getLsbD bit = b ∧ ∀ k, k ≠ bit → p.getLsbD k = s.cpu.p.getLsbD k
    writes .clc 0 false ∧ writes .sec 0 true ∧ writes .cli 2 false ∧ writes .sei 2 true ∧
    writes .clv 6 false ∧ writes .cld 3 false ∧ writes .sed 3 true

/-- NOP: the whole next state, in all 24 forms (45_flags_nop.md R920, 45_flags_nop.md R921,
40_addressing_and_cycle.md R420). -/
def Obligations.NopResult : Prop :=
  ∀ (i : Instr) (s : State), i.mnemonic = .nop →
    (i.row.operand = .imp → exec i s = .next { s with cpu := { s.cpu with cycles := 2 + s.cpu.dmaStall, dmaStall := 0 } }) ∧
    (∀ o, i.row.operand.source = some o → exec i s = .next
      { o.after s with
        cpu := { s.cpu with cycles := i.cycles (o.crossed s) + s.cpu.dmaStall, dmaStall := 0 } }) ∧
    (i.row.operand = .imp ∨ ∃ o, i.row.operand.source = some o)

/-- Every unknown opcode sets halted and changes nothing else (60_exceptions.md R1401, 30_encoding.md R330). That
the meaning of such a row is a next state is the model's choice (log 10). -/
def Obligations.UnknownOpcodeResult : Prop :=
  ∀ (i : Instr) (s : State), i.mnemonic = .unknown → exec i s = .next { s with cpu.halted := true }

/-- A reading instruction changes no byte of any memory, and no register it does not name (20_memory.md R221,
20_memory.md R223, 40_addressing_and_cycle.md R422, 42_arith_logic.md, 41_load_store_transfer.md, 45_flags_nop.md
R921). -/
def Obligations.ReadingInstructionFrame : Prop :=
  ∀ (i : Instr) (s t : State) (o : Source), i.row.operand.source = some o →
    i.mnemonic ∈ [.lda, .ldx, .ldy, .lax, .adc, .sbc, .and_, .ora, .eor, .bit, .cmp, .cpx, .cpy, .nop] →
    exec i s = .next t →
      (∀ sp j, t.byteAt sp j = s.byteAt sp j) ∧
      t.cpu.sp = s.cpu.sp ∧ t.cpu.pc = s.cpu.pc ∧ t.cpu.halted = s.cpu.halted ∧
      t.cpu.nmiPending = s.cpu.nmiPending ∧ t.cpu.cycleCount = s.cpu.cycleCount ∧
      (i.mnemonic ∉ [.ldx, .lax] → t.cpu.x = s.cpu.x) ∧
      (i.mnemonic ≠ .ldy → t.cpu.y = s.cpu.y) ∧
      (i.mnemonic ∈ [.ldx, .ldy, .bit, .cmp, .cpx, .cpy, .nop] → t.cpu.a = s.cpu.a) ∧
      (i.mnemonic = .nop → t.cpu.p = s.cpu.p) ∧
      (∀ m, o = .mem m →
        let ea := (effAddr m s).toNat
        (ea ≤ 0x1FFF ∨ (0x2000 ≤ ea ∧ ea ≤ 0x3FFF ∧ ea % 8 ≠ 2 ∧ ea % 8 ≠ 7) ∨ (0x4000 ≤ ea ∧ ea ≤ 0x4015) ∨ 0x4018 ≤ ea) →
          t = { s with cpu := t.cpu })

/-- A storing instruction changes only the bytes that its writes store to (41_load_store_transfer.md R513,
41_load_store_transfer.md R514, 41_load_store_transfer.md R515, 41_load_store_transfer.md R517, 43_shift_rmw.md
R700, 20_memory.md R222, 53_bus_dma_controller.md R1311). -/
def Obligations.StoringInstructionFrame : Prop :=
  ∀ (i : Instr) (s t : State) (m : MemMode), i.row.operand.mode = some m → exec i s = .next t →
    let ea := effAddr m s
    (i.mnemonic ∈ [.sta, .stx, .sty, .sax] →
      (∀ sp j, s.storesTo ea sp j = false → t.byteAt sp j = s.byteAt sp j) ∧
      t.cpu.a = s.cpu.a ∧ t.cpu.x = s.cpu.x ∧ t.cpu.y = s.cpu.y ∧ t.cpu.sp = s.cpu.sp ∧ t.cpu.pc = s.cpu.pc ∧
      t.cpu.p = s.cpu.p ∧ t.cpu.halted = s.cpu.halted ∧ t.cpu.cycleCount = s.cpu.cycleCount) ∧
    (i.mnemonic ∈ [.asl, .lsr, .rol, .ror, .inc, .dec, .slo, .rla, .sre, .rra, .dcp, .isb] →
      (∀ sp j, (s.afterRead ea).storesTo ea sp j = false →
        ((s.afterRead ea).busWrite ea (s.busRead ea)).storesTo ea sp j = false → t.byteAt sp j = s.byteAt sp j) ∧
      t.cpu.x = s.cpu.x ∧ t.cpu.y = s.cpu.y ∧ t.cpu.sp = s.cpu.sp ∧ t.cpu.pc = s.cpu.pc ∧
      t.cpu.halted = s.cpu.halted ∧ t.cpu.cycleCount = s.cpu.cycleCount ∧
      (i.mnemonic ∉ [.slo, .rla, .sre, .rra, .isb] → t.cpu.a = s.cpu.a))

/-- A bus call: the PPU dot, and at an instruction boundary the decoded instruction (40_addressing_and_cycle.md
R400, 40_addressing_and_cycle.md R440, 10_state.md R102, 53_bus_dma_controller.md R1301, 60_exceptions.md R1401).
Where exec starts is the model's choice (log 11). -/
def Obligations.StepRunsDecodedInstruction : Prop :=
  (∀ (s : State) (i : Instr) (rest : List Byte),
    s.cart.isSome = true → s.clock % 3 = 0 → s.beginCall.AtFetch →
    decode (s.beginCall.fetchBytes 3) = .ok (i, rest) →
    (i.wellFormed = true →
      (s.beginCall.afterFetchBytes i.length).cpu = { s.beginCall.cpu with pc := s.beginCall.cpu.pc + BitVec.ofNat 16 i.length } ∧
      ∃ t, exec i (s.beginCall.afterFetchBytes i.length) = .next t ∧
        step s = .next t.retire.clockCartridge.tick) ∧
    (i.wellFormed = false →
      ∃ t, exec i (s.beginCall.afterRead s.beginCall.cpu.pc) = .next t ∧
        step s = .next t.retire.clockCartridge.tick)) ∧
  (∀ s : State, s.cart.isSome = true →
    let dot := s.ppuStep
    (s.clock % 3 ≠ 0 → step s = .next { dot with result := .none, clock := s.clock + 1 }) ∧
    (s.clock % 3 = 0 → s.cpu.halted = false → s.cpu.cycles ≠ 0 →
      step s = .next
        { dot with
          cpu := { s.cpu with
            nmiPending := dot.cpu.nmiPending
            cycles := s.cpu.cycles - 1
            cycleCount := s.cpu.cycleCount + 1 }
          cart := dot.cart.map Cartridge.cpuClock
          result := if s.cpu.cycles = 1 then .complete else .inProgress
          clock := s.clock + 1 }))

/-- The remaining cycles of an instruction only count down (40_addressing_and_cycle.md R440,
40_addressing_and_cycle.md R441, 40_addressing_and_cycle.md R442, 10_state.md R110, 10_state.md R113). -/
def Obligations.InstructionOccupiesItsCycles : Prop :=
  ∀ (s : State) (k : Nat), s.cpu.halted = false → 1 ≤ k → k ≤ s.cpu.cycles →
    cpuSteps s k = .next
      { s with
        cpu := { s.cpu with cycles := s.cpu.cycles - k, cycleCount := s.cpu.cycleCount + k }
        result := if k = s.cpu.cycles then .complete else .inProgress }

/-- The unknown-opcode fault (R1401). -/
def Obligations.UnknownOpcodeFault : Prop :=
  ∀ s : State, s.AtFetch →
    (s.busRead s.cpu.pc ∈ unknownOpcodes → cpuStep s = .next
      { s.afterRead s.cpu.pc with
        cpu := { s.cpu with halted := true, cycleCount := s.cpu.cycleCount + 1 }
        result := .failure }) ∧
    (s.busRead s.cpu.pc ∉ unknownOpcodes → ∃ t, cpuStep s = .next t ∧ t.cpu.halted = false ∧ t.result ≠ .failure)

/-- A halted CPU does nothing but count, until reset (R1402). -/
def Obligations.HaltedIsSticky : Prop :=
  ∀ s : State, s.cpu.halted = true →
    cpuStep s = .next { s with cpu := { s.cpu with cycleCount := s.cpu.cycleCount + 1 }, result := .failure } ∧
    (∀ t, step s = .next t →
      t.cpu = { s.cpu with
        nmiPending := t.cpu.nmiPending
        cycleCount := s.cpu.cycleCount + (if s.clock % 3 = 0 then 1 else 0) } ∧
      t.ram = s.ram ∧ t.vram = s.vram ∧ t.ppu = s.ppuStep.ppu ∧
      (s.clock % 3 = 0 → t.result = .failure)) ∧
    (hostReset s).cpu.halted = false

/-- Taking an NMI or an IRQ: the whole next state, and the seven steps of the entry (R1420). -/
def Obligations.InterruptEntryEffect : Prop :=
  ∀ (s : State) (k : InterruptKind),
    let sp := s.cpu.sp
    let vec : Word := match k with
      | .nmi => 0xFFFA
      | .irq => 0xFFFE
    let taken : Prop := match k with
      | .nmi => s.cpu.nmiPending = true
      | .irq => s.cpu.nmiPending = false ∧ s.irqLine = true ∧ flagI s.cpu.p = false
    let entered : State :=
      { s with
        ram := ((s.ram.write (0x100 + sp.toNat) (hiByte s.cpu.pc)).write (0x100 + (sp - 1).toNat) (loByte s.cpu.pc)).write
          (0x100 + (sp - 2).toNat) ((s.cpu.p &&& ~~~0x10) ||| 0x20)
        cpu := { s.cpu with
          sp := sp - 3
          p := s.cpu.p ||| 0x04
          pc := wordOf (s.busRead vec) (s.busRead (vec + 1))
          nmiPending := match k with
            | .nmi => false
            | .irq => s.cpu.nmiPending
          cycles := 7 } }
    s.interruptEntry k = entered ∧
    (s.cpu.halted = false → s.cpu.cycles = 0 → taken → ∀ n, 1 ≤ n → n ≤ 7 →
      cpuSteps s n = .next
        { entered with
          cpu := { entered.cpu with cycles := 7 - n, cycleCount := s.cpu.cycleCount + n }
          result := if n = 7 then .complete else .inProgress })

/-- What a CPU step does first: the fault latch, then NMI, then an unmasked IRQ, then the fetch (60_exceptions.md
R1425, 60_exceptions.md R1416, 60_exceptions.md R1415, 60_exceptions.md R1410, 40_addressing_and_cycle.md R440). -/
def Obligations.InterruptPriority : Prop :=
  ∀ s : State, s.cpu.halted = false →
    (s.cpu.cycles ≠ 0 → cpuStep s = .next s.countDown) ∧
    (s.cpu.cycles = 0 → s.cpu.nmiPending = true →
      ∃ t, cpuStep s = .next t ∧ t.cpu.pc = wordOf (s.busRead 0xFFFA) (s.busRead 0xFFFB) ∧
        t.cpu.nmiPending = false ∧ t.cpu.cycles = 6 ∧ flagI t.cpu.p = true) ∧
    (s.cpu.cycles = 0 → s.cpu.nmiPending = false → s.irqLine = true → flagI s.cpu.p = false →
      ∃ t, cpuStep s = .next t ∧ t.cpu.pc = wordOf (s.busRead 0xFFFE) (s.busRead 0xFFFF) ∧
        t.irqLine = true ∧ t.cpu.cycles = 6 ∧ flagI t.cpu.p = true) ∧
    (s.cpu.cycles = 0 → s.cpu.nmiPending = false → (s.irqLine = false ∨ flagI s.cpu.p = true) →
      cpuStep s = runInstruction s) ∧
    (s.irqLine = true → ∃ c m, s.cart = some c ∧ c.mapper = .mmc3 m ∧ m.irqAsserted = true)

/-- The CPU read map (R1310). -/
def Obligations.BusReadMap : Prop :=
  ∀ (s : State) (a : Word),
    (∀ c, s.cart = some c → 0x8000 ≤ a.toNat → s.busRead a = c.prgRom.read (c.prgIndex a) ∧ s.afterRead a = s) ∧
    (∀ c m, s.cart = some c → c.prgRam = some m → 0x6000 ≤ a.toNat → a.toNat ≤ 0x7FFF →
      s.busRead a = m.read (a.toNat % 0x2000) ∧ s.afterRead a = s) ∧
    (∀ c, s.cart = some c → c.prgRam = none → 0x6000 ≤ a.toNat → a.toNat ≤ 0x7FFF →
      s.busRead a = 0 ∧ s.afterRead a = s) ∧
    (a.toNat ≤ 0x1FFF → s.busRead a = s.ram.read (a.toNat % 0x800) ∧ s.afterRead a = s) ∧
    (0x2000 ≤ a.toNat → a.toNat ≤ 0x3FFF →
      s.busRead a = s.regRead (BitVec.ofNat 3 a.toNat) ∧ s.afterRead a = s.afterRegRead (BitVec.ofNat 3 a.toNat)) ∧
    (a = 0x4016 → s.busRead a = padByte (padBit s.strobe s.shift1 s.buttons1) ∧
      s.afterRead a = { s with shift1 := padShift s.strobe s.shift1 }) ∧
    (a = 0x4017 → s.busRead a = padByte (padBit s.strobe s.shift2 s.buttons2) ∧
      s.afterRead a = { s with shift2 := padShift s.strobe s.shift2 }) ∧
    (0x4000 ≤ a.toNat → a.toNat ≤ 0x5FFF → a ≠ 0x4016 → a ≠ 0x4017 → s.busRead a = 0 ∧ s.afterRead a = s)

/-- The CPU write map, and the boolean result of a write (53_bus_dma_controller.md R1311, 53_bus_dma_controller.md
R1312, 52_cartridge_mappers.md R1206, 52_cartridge_mappers.md R1207, 52_cartridge_mappers.md R1208). -/
def Obligations.BusWriteMap : Prop :=
  ∀ (s : State) (a : Word) (v : Byte),
    let result := s.busWriteResult a v
    (∀ c, s.cart = some c → 0x8000 ≤ a.toNat →
      s.busWrite a v = { s with cart := some { c with mapper := c.mapper.write a v } } ∧ result = true) ∧
    (∀ c m, s.cart = some c → c.prgRam = some m → 0x6000 ≤ a.toNat → a.toNat ≤ 0x7FFF →
      s.busWrite a v = { s with cart := some { c with prgRam := some (m.write (a.toNat % 0x2000) v) } } ∧
      (s.busWrite a v).busRead a = v ∧ result = true) ∧
    (∀ c, s.cart = some c → c.prgRam = none → 0x6000 ≤ a.toNat → a.toNat ≤ 0x7FFF →
      s.busWrite a v = s ∧ result = false) ∧
    (a.toNat ≤ 0x1FFF →
      s.busWrite a v = { s with ram := s.ram.write (a.toNat % 0x800) v } ∧ result = true ∧
      ∀ b : Word, b.toNat ≤ 0x1FFF →
        (s.busWrite a v).busRead b = if b.toNat % 0x800 = a.toNat % 0x800 then v else s.busRead b) ∧
    (0x2000 ≤ a.toNat → a.toNat ≤ 0x3FFF → s.busWrite a v = s.regWrite (BitVec.ofNat 3 a.toNat) v ∧ result = true) ∧
    (a = 0x4014 → s.busWrite a v = s.oamDma v ∧ result = true) ∧
    (a = 0x4016 → s.busWrite a v = s.writeStrobe v ∧ result = true) ∧
    (0x4000 ≤ a.toNat → a.toNat ≤ 0x5FFF → a ≠ 0x4014 → a ≠ 0x4016 → s.busWrite a v = s ∧ result = false)

/-- OAM DMA copies a page into OAM and steals 513 or 514 cycles (53_bus_dma_controller.md R1320,
53_bus_dma_controller.md R1321, 40_addressing_and_cycle.md R440, 10_state.md R115). -/
def Obligations.OamDmaCopiesPage : Prop :=
  ∀ (s : State) (page : Byte),
    let t := s.busWrite 0x4014 page
    let source (i : Nat) : Word := BitVec.ofNat 16 (256 * page.toNat + i)
    let stalled (u : State) : State :=
      { u with cpu := { s.cpu with dmaStall := s.cpu.dmaStall + 513 + s.cpu.cycleCount % 2 } }
    let withOam (u : State) (m : Memory) : State := { u with ppu := { u.ppu with oam := m } }
    (∃ u : Nat → State, u 0 = s ∧ t = stalled (u 256) ∧ ∀ i, i < 256 →
      u (i + 1) = withOam ((u i).afterRead (source i))
        ((u i).ppu.oam.write ((s.ppu.oamAddr.toNat + i) % 256) ((u i).busRead (source i))) ∧
      t.ppu.oam.read ((s.ppu.oamAddr.toNat + i) % 256) = (u i).busRead (source i)) ∧
    (page.toNat < 0x20 ∨ 0x41 ≤ page.toNat →
      t = stalled (withOam s t.ppu.oam) ∧
      ∀ i, i < 256 → t.ppu.oam.read ((s.ppu.oamAddr.toNat + i) % 256) = s.busRead (source i)) ∧
    (page.toNat = 0x40 →
      t = stalled (withOam ((s.afterRead 0x4016).afterRead 0x4017) t.ppu.oam) ∧
      ∀ i, i < 256 → t.ppu.oam.read ((s.ppu.oamAddr.toNat + i) % 256) = s.busRead (source i)) ∧
    t.ppu.oamAddr = s.ppu.oamAddr ∧
    (s.cpu.a = page → ∃ u, exec (.staAbs 0x4014) s = .next u ∧ u.ppu.oam = t.ppu.oam ∧
      u.cpu.cycles = 4 + s.cpu.dmaStall + 513 + s.cpu.cycleCount % 2 ∧ u.cpu.dmaStall = 0)

/-- The controllers: strobe, eight buttons in order, then ones (R1330, R1331). -/
def Obligations.ControllerReadSequence : Prop :=
  ∀ s : State,
    (∀ v : Byte, s.busWrite 0x4016 v =
      { s with
        strobe := v.getLsbD 0
        shift1 := if v.getLsbD 0 then 0 else s.shift1
        shift2 := if v.getLsbD 0 then 0 else s.shift2 }) ∧
    (s.strobe = true → ∀ k,
      (s.afterReads 0x4016 k).busRead 0x4016 = 0x40 ||| (if s.buttons1.getLsbD 0 then 1 else 0) ∧
      (s.afterReads 0x4017 k).busRead 0x4017 = 0x40 ||| (if s.buttons2.getLsbD 0 then 1 else 0)) ∧
    (s.strobe = false → s.shift1 ≤ 8 → s.shift2 ≤ 8 → ∀ k,
      (s.afterReads 0x4016 k).busRead 0x4016 =
        (if s.shift1 + k < 8 then 0x40 ||| (if s.buttons1.getLsbD (s.shift1 + k) then 1 else 0) else 0x41) ∧
      (s.afterReads 0x4016 k) = { s with shift1 := min 8 (s.shift1 + k) } ∧
      (s.afterReads 0x4017 k).busRead 0x4017 =
        (if s.shift2 + k < 8 then 0x40 ||| (if s.buttons2.getLsbD (s.shift2 + k) then 1 else 0) else 0x41) ∧
      (s.afterReads 0x4017 k) = { s with shift2 := min 8 (s.shift2 + k) })

/-- PPUSTATUS: the byte, its effects, and the race with the start of vblank (R1030, R1040). -/
def Obligations.PpuStatusRead : Prop :=
  ∀ s : State,
    let race := decide (s.ppu.scanline = 241) && decide (s.ppu.dot = 1)
    let b := s.regRead 2
    let t := s.afterRegRead 2
    b.getLsbD 7 = (s.ppu.vbl && !race) ∧ b.getLsbD 6 = s.ppu.sprite0Hit ∧ b.getLsbD 5 = s.ppu.overflow ∧
    (∀ k, k < 5 → b.getLsbD k = s.ppu.openBus.getLsbD k) ∧
    t = { s with ppu := { s.ppu with vbl := false, w := false, vblSuppress := s.ppu.vblSuppress || race } } ∧
    (∀ v, s.regWrite 2 v = { s with ppu := { s.ppu with openBus := v, openBusAge := 0 } }) ∧
    (race = true → t.ppuStep.ppu.vbl = false ∧ t.ppuStep.cpu.nmiPending = s.cpu.nmiPending) ∧
    (race = true → s.ppu.vblSuppress = false → s.ppu.ctrl.getLsbD 7 = true → s.ppu.nmiCallbackRegistered = true →
      s.ppuStep.regRead 2 &&& 0x80 = 0x80 ∧ (s.ppuStep.afterRegRead 2).ppu.vbl = false ∧
      (s.ppuStep.afterRegRead 2).cpu.nmiPending = true)

/-- PPUCTRL: the register, the nametable bits of t, and the NMI of a late enable (R1010). -/
def Obligations.PpuControlWrite : Prop :=
  ∀ (s : State) (v : Byte), s.ppu.nmiCallbackRegistered = true →
    let t := s.regWrite 0 v
    t = { s with
      ppu := { s.ppu with ctrl := v, t := t.ppu.t, openBus := v, openBusAge := 0 }
      cpu := { s.cpu with
        nmiPending := s.cpu.nmiPending ||
          (!s.ppu.ctrl.getLsbD 7 && v.getLsbD 7 && s.ppu.vbl && s.params.nmiOnCtrlEnable) } } ∧
    ∀ k, k < 15 → t.ppu.t.getLsbD k =
      if k = 10 then v.getLsbD 0 else if k = 11 then v.getLsbD 1 else s.ppu.t.getLsbD k

/-- PPUSCROLL and PPUADDR: the two-write latch and every bit of t, x and v (R1020, R1021). -/
def Obligations.ScrollAndAddressWrites : Prop :=
  ∀ (s : State) (v : Byte),
    let t5 := s.regWrite 5 v
    let t6 := s.regWrite 6 v
    (s.ppu.w = false →
      (∀ k, k < 15 → t5.ppu.t.getLsbD k = if k < 5 then v.getLsbD (k + 3) else s.ppu.t.getLsbD k) ∧
      t5.ppu.fineX.toNat = v.toNat % 8 ∧ t5.ppu.w = true ∧ t5.ppu.v = s.ppu.v ∧
      (∀ k, k < 15 → t6.ppu.t.getLsbD k =
        if 8 ≤ k ∧ k < 14 then v.getLsbD (k - 8) else if k = 14 then false else s.ppu.t.getLsbD k) ∧
      t6.ppu.w = true ∧ t6.ppu.v = s.ppu.v ∧ t6.ppu.fineX = s.ppu.fineX ∧
      ∀ lo : Byte, (t6.regWrite 6 lo).ppu.v.toNat = v.toNat % 64 * 256 + lo.toNat) ∧
    (s.ppu.w = true →
      (∀ k, k < 15 → t5.ppu.t.getLsbD k =
        if 12 ≤ k then v.getLsbD (k - 12) else if 5 ≤ k ∧ k < 10 then v.getLsbD (k - 2) else s.ppu.t.getLsbD k) ∧
      t5.ppu.fineX = s.ppu.fineX ∧ t5.ppu.w = false ∧ t5.ppu.v = s.ppu.v ∧
      (∀ k, k < 15 → t6.ppu.t.getLsbD k = if k < 8 then v.getLsbD k else s.ppu.t.getLsbD k) ∧
      t6.ppu.v = t6.ppu.t ∧ t6.ppu.w = false ∧ t6.ppu.fineX = s.ppu.fineX)

/-- PPUMASK, OAMADDR, OAMDATA and the open-bus latch (R1001, R1003, R1011, R1015, R1016, R1017). -/
def Obligations.OamAndOpenBusRegisters : Prop :=
  ∀ (s : State) (v : Byte),
    (∀ r, (s.regWrite r v).ppu.openBus = v ∧ (s.regWrite r v).ppu.openBusAge = 0) ∧
    (∀ r : BitVec 3, r ∈ [0, 1, 3, 5, 6] → s.regRead r = s.ppu.openBus ∧ s.afterRegRead r = s) ∧
    (s.regWrite 1 v = { s with ppu := { s.ppu with mask := v, openBus := v, openBusAge := 0 } }) ∧
    (s.ppu.renderingEnabled = true ↔ (s.ppu.mask.getLsbD 3 = true ∨ s.ppu.mask.getLsbD 4 = true)) ∧
    (let q := { s.ppu with mask := s.ppu.mask &&& 0x1F }
     ∀ xp idx, q.bgPixel xp = s.ppu.bgPixel xp ∧ q.bgPalette = s.ppu.bgPalette ∧
      q.spritePixel xp = s.ppu.spritePixel xp ∧ q.colourAt idx = s.ppu.colourAt idx) ∧
    (s.regWrite 3 v = { s with ppu := { s.ppu with oamAddr := v, openBus := v, openBusAge := 0 } }) ∧
    s.ppuStep.ppu.oamAddr = s.ppu.oamAddr ∧
    (s.regRead 4 = s.ppu.oam.read s.ppu.oamAddr.toNat ∧ s.afterRegRead 4 = s) ∧
    (s.regWrite 4 v =
      if s.ppu.renderingEnabled = true ∧ -1 ≤ s.ppu.scanline ∧ s.ppu.scanline ≤ 239 then
        { s with ppu := { s.ppu with openBus := v, openBusAge := 0 } }
      else
        { s with
          ppu := { s.ppu with
            oam := s.ppu.oam.write s.ppu.oamAddr.toNat v
            oamAddr := s.ppu.oamAddr + 1
            openBus := v
            openBusAge := 0 } })

/-- PPUDATA: buffered reads, immediate palette reads, writes and the increment (R1025, R1026). -/
def Obligations.PpuDataAccess : Prop :=
  ∀ (s : State) (v : Byte),
    let a : BitVec 14 := BitVec.ofNat 14 s.ppu.v.toNat
    let n : Nat := (s.ppu.v.toNat + (if s.ppu.ctrl.getLsbD 2 then 32 else 1)) % 0x8000
    let r := s.afterRegRead 7
    let t := s.regWrite 7 v
    s.regRead 7 = (if 0x3F00 ≤ a.toNat then s.ppuRead a else s.ppu.readBuffer) ∧
    r = { s with
      cart := (s.afterPpuRead a).cart
      ppu := { s.ppu with readBuffer := s.ppuRead a, v := BitVec.ofNat 15 n } } ∧
    (0x3F00 ≤ r.ppu.dataAddr.toNat ∨ r.regRead 7 = s.ppuRead a) ∧
    t = { (s.refreshOpenBus v).ppuWrite a v with
      ppu := { ((s.refreshOpenBus v).ppuWrite a v).ppu with v := BitVec.ofNat 15 n } }

/-- PPU address space: palette aliases, nametable mirroring, CHR (51_ppu_rendering.md R1101, 51_ppu_rendering.md
R1102, 51_ppu_rendering.md R1103, 52_cartridge_mappers.md R1210, 52_cartridge_mappers.md R1211). -/
def Obligations.PpuAddressSpace : Prop :=
  ∀ (s : State) (c : Cartridge) (a b : BitVec 14) (v : Byte), s.cart = some c →
    let cell (x : BitVec 14) : Nat := if x.toNat % 32 % 4 = 0 then x.toNat % 16 else x.toNat % 32
    let vramByte (x : BitVec 14) : Nat :=
      (match c.currentMirroring with
        | .vertical => x.toNat / 0x400 % 2
        | .horizontal => x.toNat / 0x800 % 2) * 0x400 + x.toNat % 0x400
    (0x3F00 ≤ a.toNat → 0x3F00 ≤ b.toNat →
      (s.ppuWrite a v).ppuRead b = (if cell b = cell a then v &&& 0x3F else s.ppuRead b) ∧
      (s.ppuWrite a v).cart = s.cart) ∧
    (0x2000 ≤ a.toNat → a.toNat < 0x3F00 → 0x2000 ≤ b.toNat → b.toNat < 0x3F00 →
      (s.ppuWrite a v).ppuRead b = (if vramByte b = vramByte a then v else s.ppuRead b)) ∧
    (a.toNat < 0x2000 →
      s.ppuRead a = c.chr.read (c.chrIndex a) ∧
      (s.ppuWrite a v).ppuRead a = (if c.chrBanks = 0 then v else s.ppuRead a))

/-- The dot counter, the odd-frame skip and the length of a frame (R1105). OPEN_BUS_DECAY_FRAMES has every value
(log 4). -/
def Obligations.DotAdvance : Prop :=
  (∀ p : Ppu, p.Inv →
    let skip := p.scanline = -1 ∧ p.dot = 339 ∧ p.frame % 2 = 1 ∧ p.renderingEnabled = true
    (skip → p.advance = { p with scanline := 0, dot := 0 }) ∧
    (¬ skip → p.dot < 340 → p.advance = { p with dot := p.dot + 1 }) ∧
    (p.dot = 340 → p.scanline < 260 → p.advance = { p with dot := 0, scanline := p.scanline + 1 }) ∧
    (p.dot = 340 → p.scanline = 260 → p.advance =
      { p with
        dot := 0
        scanline := -1
        frame := p.frame + 1
        openBusAge := p.openBusAge + 1
        openBus := if Config.openBusDecayFrames ≤ p.openBusAge + 1 then 0 else p.openBus })) ∧
  (∀ p : Ppu, p.scanline = -1 → p.dot = 0 →
    let n := if p.frame % 2 = 1 ∧ p.renderingEnabled = true then 89341 else 89342
    let q := Ppu.advance^[n] p
    q.scanline = -1 ∧ q.dot = 0 ∧ q.frame = p.frame + 1 ∧
      ∀ k, 0 < k → k < n → ¬ ((Ppu.advance^[k] p).scanline = -1 ∧ (Ppu.advance^[k] p).dot = 0))

/-- The flag events of a dot: vblank at (241, 1), the clear at (-1, 1), and no other VBL or NMI change (R1110,
R1120). -/
def Obligations.VblankAndFlagEvents : Prop :=
  ∀ s : State, s.ppu.nmiCallbackRegistered = true →
    let t := s.ppuStep
    (s.ppu.scanline = 241 → s.ppu.dot = 1 →
      t.ppu.vbl = (s.ppu.vbl || !s.ppu.vblSuppress) ∧ t.ppu.vblSuppress = s.ppu.vblSuppress ∧
      t.cpu.nmiPending = (s.cpu.nmiPending || (s.ppu.ctrl.getLsbD 7 && !s.ppu.vblSuppress))) ∧
    (s.ppu.scanline = -1 → s.ppu.dot = 1 →
      t.ppu.vbl = false ∧ t.ppu.sprite0Hit = false ∧ t.ppu.overflow = false ∧ t.ppu.vblSuppress = false ∧
      t.ppu.secCount = 0 ∧ t.ppu.secHasZero = false ∧ t.cpu.nmiPending = s.cpu.nmiPending) ∧
    (¬ (s.ppu.scanline = 241 ∧ s.ppu.dot = 1) → ¬ (s.ppu.scanline = -1 ∧ s.ppu.dot = 1) →
      t.ppu.vbl = s.ppu.vbl ∧ t.ppu.vblSuppress = s.ppu.vblSuppress ∧ t.cpu.nmiPending = s.cpu.nmiPending)

/-- One pixel for each dot 1-256 of a visible line, its colour and sprite-0 hit, and no other change by a dot that
does not render (51_ppu_rendering.md R1130, 51_ppu_rendering.md R1145, 51_ppu_rendering.md R1150,
51_ppu_rendering.md R1151, 51_ppu_rendering.md R1152, 51_ppu_rendering.md R1106, 51_ppu_rendering.md R1110,
51_ppu_rendering.md R1120, 51_ppu_rendering.md R1160, 50_ppu_registers.md R1011, 00_scope.md R11). That the sink
call is a field of State is the model's choice (log 6), and so is the low sprite byte in flight, which expires at
its load dot (log 7). -/
def Obligations.PixelSinkCalls : Prop :=
  ∀ s : State,
    let t := s.ppuStep
    let inPicture := 0 ≤ s.ppu.scanline ∧ s.ppu.scanline ≤ 239 ∧ 1 ≤ s.ppu.dot ∧ s.ppu.dot ≤ 256
    let xp := s.ppu.dot - 1
    let mask (k : Nat) : Bool := s.ppu.mask.getLsbD k
    let colour (idx : Nat) : BitVec 6 :=
      s.ppu.palette[if idx % 4 = 0 then idx % 16 else idx]?.getD 0 &&& (if mask 0 then 0x30 else 0x3F)
    let two (hi lo : Bool) : Nat := 2 * hi.toNat + lo.toNat
    let sel := 15 - s.ppu.fineX.toNat
    let bgPx := if mask 3 && (decide (8 ≤ xp) || mask 1) then two (t.ppu.bgPatHi.getLsbD sel) (t.ppu.bgPatLo.getLsbD sel)
      else 0
    let bgIdx := if bgPx = 0 then 0 else 4 * two (t.ppu.bgAttrHi.getLsbD sel) (t.ppu.bgAttrLo.getLsbD sel) + bgPx
    let sprites := mask 4 && (decide (8 ≤ xp) || mask 2)
    let pixel (i : Fin 8) : Nat :=
      let slot := s.ppu.slots[i]
      if slot.x.toNat ≤ xp ∧ xp ≤ slot.x.toNat + 7 then
        two (slot.hi.getLsbD (slot.x.toNat + 7 - xp)) (slot.lo.getLsbD (slot.x.toNat + 7 - xp))
      else 0
    let out (idx : Nat) (hit : Bool) : Prop :=
      t.pixel = some ⟨xp, s.ppu.scanline.toNat, colour idx⟩ ∧ t.ppu.sprite0Hit = (s.ppu.sprite0Hit || hit)
    (inPicture → ∃ c, t.pixel = some ⟨xp, s.ppu.scanline.toNat, c⟩ ∧ xp < 256 ∧ s.ppu.scanline.toNat < 240) ∧
    (¬ inPicture → t.pixel = none) ∧
    (inPicture → s.ppu.renderingEnabled = false → out 0 false) ∧
    (inPicture → s.ppu.renderingEnabled = true →
      (∀ i : Fin 8, sprites = true → i.val < s.ppu.sprCount → pixel i ≠ 0 → (∀ j, j < i → pixel j = 0) →
        let attr := s.ppu.slots[i].attr
        out (if bgPx ≠ 0 ∧ attr.getLsbD 5 = true then bgIdx else 0x10 + 4 * (attr.toNat % 4) + pixel i)
          (decide (bgPx ≠ 0) && decide (i.val = 0) && s.ppu.sprZeroInLine &&
            (decide (xp ≠ 255) || s.params.sprite0HitX255))) ∧
      (sprites = false ∨ (∀ i : Fin 8, i.val < s.ppu.sprCount → pixel i = 0) → out bgIdx false)) ∧
    (s.ppu.renderingEnabled = false ∨ 240 ≤ s.ppu.scanline →
      let clears := s.ppu.scanline = -1 ∧ s.ppu.dot = 1
      let vblank := s.ppu.scanline = 241 ∧ s.ppu.dot = 1
      t = { s with pixel := t.pixel, cpu := { s.cpu with nmiPending := t.cpu.nmiPending }, ppu := t.ppu } ∧
      t.ppu = { s.ppu with
        vbl := t.ppu.vbl, sprite0Hit := t.ppu.sprite0Hit, overflow := t.ppu.overflow, vblSuppress := t.ppu.vblSuppress
        secCount := t.ppu.secCount, secHasZero := t.ppu.secHasZero, scanline := t.ppu.scanline, dot := t.ppu.dot
        frame := t.ppu.frame, openBus := t.ppu.openBus, openBusAge := t.ppu.openBusAge
        sprLoLatch := t.ppu.sprLoLatch } ∧
      (¬ clears → t.ppu.sprite0Hit = s.ppu.sprite0Hit ∧ t.ppu.overflow = s.ppu.overflow ∧
        t.ppu.secCount = s.ppu.secCount ∧ t.ppu.secHasZero = s.ppu.secHasZero) ∧
      (¬ clears → ¬ vblank → t.ppu.vbl = s.ppu.vbl ∧ t.ppu.vblSuppress = s.ppu.vblSuppress ∧
        t.cpu.nmiPending = s.cpu.nmiPending) ∧
      (¬ (s.ppu.scanline = 260 ∧ s.ppu.dot = 340) → s.ppu.dot ≤ 340 → s.ppu.scanline ≤ 260 →
        t.ppu.frame = s.ppu.frame ∧ t.ppu.openBus = s.ppu.openBus ∧ t.ppu.openBusAge = s.ppu.openBusAge))

/-- IncX, IncY and the two copies, as numbers (R1111, R1112, R1113, R1114). -/
def Obligations.ScrollUpdates : Prop :=
  (∀ v t : BitVec 15,
    let n := v.toNat
    let coarseX := n % 32
    let coarseY := n / 32 % 32
    (incX v).toNat = (if coarseX = 31 then (if n / 1024 % 2 = 0 then n - 31 + 1024 else n - 31 - 1024) else n + 1) ∧
    (incY v).toNat =
      (if n / 4096 < 7 then n + 4096
      else if coarseY = 29 then
        (if n / 2048 % 2 = 0 then n - 7 * 4096 - 29 * 32 + 2048 else n - 7 * 4096 - 29 * 32 - 2048)
      else if coarseY = 31 then n - 7 * 4096 - 31 * 32
      else n - 7 * 4096 + 32) ∧
    (∀ k, k < 15 →
      (copyHorizontal v t).getLsbD k = (if k < 5 ∨ k = 10 then t.getLsbD k else v.getLsbD k) ∧
      (copyVertical v t).getLsbD k = (if k < 5 ∨ k = 10 then v.getLsbD k else t.getLsbD k))) ∧
  (∀ s : State, s.ppu.renderingEnabled = true → -1 ≤ s.ppu.scanline → s.ppu.scanline ≤ 239 →
    let v := s.ppu.v
    (s.ppu.dot = 256 → s.ppuStep.ppu.v = incY (incX v)) ∧
    (s.ppu.dot = 257 → s.ppuStep.ppu.v = copyHorizontal v s.ppu.t) ∧
    (s.ppu.scanline = -1 → 280 ≤ s.ppu.dot → s.ppu.dot ≤ 304 → s.ppuStep.ppu.v = copyVertical v s.ppu.t) ∧
    (1 ≤ s.ppu.dot → s.ppu.dot < 256 → s.ppuStep.ppu.v = if s.ppu.dot % 8 = 0 then incX v else v) ∧
    (258 ≤ s.ppu.dot → s.ppu.dot ≤ 340 → ¬ (s.ppu.scanline = -1 ∧ 280 ≤ s.ppu.dot ∧ s.ppu.dot ≤ 304) →
      s.ppuStep.ppu.v = if s.ppu.dot = 328 ∨ s.ppu.dot = 336 then incX v else v))

/-- The background and sprite fetches: their addresses, and what each dot reads, shifts, reloads and loads
(51_ppu_rendering.md R1121, 51_ppu_rendering.md R1122, 51_ppu_rendering.md R1123, 51_ppu_rendering.md R1124,
51_ppu_rendering.md R1125, 51_ppu_rendering.md R1126, 51_ppu_rendering.md R1142, 51_ppu_rendering.md R1143,
51_ppu_rendering.md R1144, 51_ppu_rendering.md R1102). The low sprite byte in flight, and its being free when its
fetch dot was not run, are the model's choice (log 7). -/
def Obligations.FetchAddresses : Prop :=
  (∀ (p : Ppu) (b : Byte),
    let n := p.v.toNat
    p.attributeAddr.toNat = 0x23C0 + n / 1024 % 4 * 1024 + n / 128 % 8 * 8 + n / 4 % 8 ∧
    (attrBits p.v b).toNat = b.toNat / 2 ^ (4 * (n / 64 % 2) + 2 * (n / 2 % 2)) % 4) ∧
  (∀ (p : Ppu) (i : Nat),
    let tile := (p.secOam.read (4 * i + 1)).toNat
    let y := ((p.secOam.read (4 * i)).toNat : Int)
    let flip := (p.secOam.read (4 * i + 2)).getLsbD 7
    let h : Int := if p.ctrl.getLsbD 5 then 16 else 8
    let row := if flip then h - 1 - (p.scanline - y) else p.scanline - y
    i < p.sprCount → 0 ≤ p.scanline - y → p.scanline - y < h →
      ((p.sprAddr i).toNat : Int) =
        if p.ctrl.getLsbD 5 then
          (if tile % 2 = 1 then 0x1000 else 0) + 16 * ((tile / 2 * 2 : Nat) : Int) + (if 8 ≤ row then row + 8 else row)
        else (if p.ctrl.getLsbD 3 then 0x1000 else 0) + 16 * (tile : Int) + row) ∧
  (∀ (p : Ppu) (i : Nat), ¬ i < p.sprCount →
    (p.sprAddr i).toNat =
      if p.ctrl.getLsbD 5 then 0x1FE0 else (if p.ctrl.getLsbD 3 then 0x1000 else 0) + 0xFF0) ∧
  (∀ s : State, s.ppu.renderingEnabled = true → -1 ≤ s.ppu.scanline → s.ppu.scanline ≤ 239 →
    let p := s.ppu
    let q := s.ppuStep.ppu
    let d := p.dot
    let shifts := (2 ≤ d ∧ d ≤ 257) ∨ (322 ≤ d ∧ d ≤ 337)
    let reloads := d % 8 = 1 ∧ ((9 ≤ d ∧ d ≤ 257) ∨ d = 329 ∨ d = 337)
    let fetches := (1 ≤ d ∧ d ≤ 256) ∨ (321 ≤ d ∧ d ≤ 336)
    let sprites := 257 ≤ d ∧ d ≤ 320
    let slot := (d - 257) / 8
    let shifted (r : BitVec 16) (low : Nat) (r' : BitVec 16) : Prop :=
      let moved := if shifts then r.toNat * 2 % 65536 else r.toNat
      r'.toNat = if reloads then moved / 256 * 256 + low else moved
    let nametable : BitVec 14 := BitVec.ofNat 14 (0x2000 + q.v.toNat % 4096)
    let pattern : BitVec 14 :=
      BitVec.ofNat 14 ((if p.ctrl.getLsbD 4 then 0x1000 else 0) + 16 * p.ntNext.toNat + p.v.toNat / 4096)
    let readAt : Option (BitVec 14) :=
      if fetches ∧ d % 8 = 1 then some nametable
      else if fetches ∧ d % 8 = 3 then some p.attributeAddr
      else if fetches ∧ d % 8 = 5 then some pattern
      else if fetches ∧ d % 8 = 7 then some (pattern + 8)
      else if d = 337 ∨ d = 339 then some nametable
      else if sprites ∧ (d % 8 = 2 ∨ d % 8 = 4) then some nametable
      else if sprites ∧ d % 8 = 6 then some (p.sprAddr slot)
      else if sprites ∧ d % 8 = 0 then some (p.sprAddr slot + 8)
      else none
    let byte : Byte := match readAt with
      | some a => s.ppuRead a
      | none => 0
    s.ppuStep.cart = (match readAt with
      | some a => (s.afterPpuRead a).cart
      | none => s.cart) ∧
    s.ppuStep.vram = s.vram ∧
    shifted p.bgPatLo p.patLoNext.toNat q.bgPatLo ∧ shifted p.bgPatHi p.patHiNext.toNat q.bgPatHi ∧
    shifted p.bgAttrLo (if p.atNext.getLsbD 0 then 0xFF else 0) q.bgAttrLo ∧
    shifted p.bgAttrHi (if p.atNext.getLsbD 1 then 0xFF else 0) q.bgAttrHi ∧
    q.ntNext = (if fetches ∧ d % 8 = 1 then byte else p.ntNext) ∧
    q.atNext = (if fetches ∧ d % 8 = 3 then attrBits p.v byte else p.atNext) ∧
    q.patLoNext = (if fetches ∧ d % 8 = 5 then byte else p.patLoNext) ∧
    q.patHiNext = (if fetches ∧ d % 8 = 7 then byte else p.patHiNext) ∧
    q.sprCount = (if d = 257 then p.secCount else p.sprCount) ∧
    q.sprZeroInLine = (if d = 257 then p.secHasZero else p.sprZeroInLine) ∧
    q.sprLoLatch = (if sprites ∧ d % 8 = 6 then some byte else if sprites ∧ d % 8 = 0 then none else p.sprLoLatch) ∧
    (∃ lo : Byte, (∀ b, p.sprLoLatch = some b → lo = b) ∧
      ∀ j : Fin 8, q.slots[j] =
        if sprites ∧ d % 8 = 0 ∧ j.val = slot then
          let attr := p.secOam.read (4 * j.val + 2)
          let oriented (b : Byte) : Byte := if attr.getLsbD 6 then b.reverse else b
          if j.val < p.sprCount then ⟨oriented lo, oriented byte, p.secOam.read (4 * j.val + 3), attr⟩
          else { p.slots[j] with lo := 0, hi := 0 }
        else p.slots[j]) ∧
    q.t = p.t ∧ q.fineX = p.fineX ∧ q.w = p.w ∧ q.oam = p.oam ∧ q.palette = p.palette ∧ q.ctrl = p.ctrl ∧
    q.mask = p.mask ∧ q.readBuffer = p.readBuffer)

/-- Secondary OAM is cleared at dot 64, and evaluation keeps the first eight sprites of the next line, in OAM order
(R1140, R1141). -/
def Obligations.SpriteEvaluation : Prop :=
  ∀ s : State,
    let h : Int := if s.ppu.ctrl.getLsbD 5 then 16 else 8
    let inRange (i : Nat) : Bool :=
      decide (0 ≤ s.ppu.scanline - ((s.ppu.oam.read (4 * i)).toNat : Int)) &&
      decide (s.ppu.scanline - ((s.ppu.oam.read (4 * i)).toNat : Int) < h)
    let found := (List.range 64).filter inRange
    let q := s.ppuStep.ppu
    let renders := s.ppu.renderingEnabled = true ∧ 0 ≤ s.ppu.scanline ∧ s.ppu.scanline ≤ 239
    let clears := renders ∧ s.ppu.dot = 64
    let evaluates := renders ∧ s.ppu.dot = 256
    (clears → ∀ j, q.secOam.read j = if j < 32 then 0xFF else s.ppu.secOam.read j) ∧
    (evaluates →
      q.secCount = min 8 found.length ∧
      q.secHasZero = inRange 0 ∧
      q.overflow = (s.ppu.overflow || decide (8 < found.length)) ∧
      (∀ n b, n < q.secCount → b < 4 → q.secOam.read (4 * n + b) = s.ppu.oam.read (4 * found.getD n 0 + b)) ∧
      (∀ j, 4 * q.secCount ≤ j → q.secOam.read j = s.ppu.secOam.read j) ∧
      q.sprCount = s.ppu.sprCount ∧ q.oam = s.ppu.oam ∧ q.slots = s.ppu.slots) ∧
    (¬ evaluates → ¬ clears → q.secOam = s.ppu.secOam) ∧
    (¬ evaluates → ¬ (s.ppu.scanline = -1 ∧ s.ppu.dot = 1) →
      q.secCount = s.ppu.secCount ∧ q.secHasZero = s.ppu.secHasZero ∧ q.overflow = s.ppu.overflow)

/-- NROM, UxROM, CNROM and GxROM: the registers and where each address lands (R1220, R1225, R1230, R1235). -/
def Obligations.DiscreteMapperBanks : Prop :=
  ∀ (c : Cartridge) (a : Word) (b : BitVec 14) (v : Byte),
    1 ≤ c.prgBanks → 0x8000 ≤ a.toNat → b.toNat < 0x2000 →
    let size := 16384 * c.prgBanks
    let chrCount := if c.chrBanks = 0 then 1 else c.chrBanks
    let readsPrg (k : Nat) : Prop := c.cpuRead a = some (c.prgRom.read k)
    let reachesChr (k : Nat) : Prop :=
      c.ppuRead b = some (c.chr.read k) ∧
      c.ppuWrite b v = some (if c.chrBanks = 0 then { c with chr := c.chr.write k v } else c)
    let writes (m : Mapper) : Prop := c.cpuWrite a v = some { c with mapper := m }
    (c.mapper = .nrom →
      readsPrg ((a.toNat - 0x8000) % size) ∧ reachesChr b.toNat ∧ writes .nrom) ∧
    (∀ bank, c.mapper = .uxrom bank →
      readsPrg (if a.toNat < 0xC000 then bank.toNat % c.prgBanks * 16384 + a.toNat % 16384
        else (c.prgBanks - 1) * 16384 + a.toNat % 16384) ∧
      reachesChr b.toNat ∧ writes (.uxrom v)) ∧
    (∀ bank, c.mapper = .cnrom bank →
      readsPrg ((a.toNat - 0x8000) % size) ∧
      reachesChr (bank.toNat % chrCount * 8192 + b.toNat) ∧ writes (.cnrom v)) ∧
    (∀ prg chr, c.mapper = .gxrom prg chr →
      readsPrg ((prg.toNat % max 1 (c.prgBanks / 2) * 32768 + (a.toNat - 0x8000)) % size) ∧
      reachesChr (chr.toNat % chrCount * 8192 + b.toNat) ∧
      writes (.gxrom (BitVec.ofNat 2 (v.toNat / 16)) (BitVec.ofNat 2 v.toNat)))

/-- MMC3: register writes, the two PRG layouts and the two CHR layouts (R1240, R1241, R1242). -/
def Obligations.Mmc3Banks : Prop :=
  ∀ (c : Cartridge) (m : Mmc3) (a : Word) (b : BitVec 14) (v : Byte),
    1 ≤ c.prgBanks → c.mapper = .mmc3 m → 0x8000 ≤ a.toNat → b.toNat < 0x2000 →
    let n8 := 2 * c.prgBanks
    let window := (a.toNat - 0x8000) / 0x2000
    let bank := if window = 0 then (if m.prgMode then n8 - 2 else m.regs[6].toNat)
      else if window = 1 then m.regs[7].toNat
      else if window = 2 then (if m.prgMode then m.regs[6].toNat else n8 - 2)
      else n8 - 1
    let slot := if m.chrMode then (b.toNat / 0x400 + 4) % 8 else b.toNat / 0x400
    let chrBank := if slot < 2 then m.regs[0].toNat + slot else if slot < 4 then m.regs[1].toNat + (slot - 2)
      else if slot = 4 then m.regs[2].toNat else if slot = 5 then m.regs[3].toNat
      else if slot = 6 then m.regs[4].toNat else m.regs[5].toNat
    let odd := a.toNat % 2 = 1
    let w := m.write a v
    let chrIndex := chrBank % (8 * (if c.chrBanks = 0 then 1 else c.chrBanks)) * 1024 + b.toNat % 1024
    c.cpuRead a = some (c.prgRom.read (bank % n8 * 8192 + a.toNat % 8192)) ∧
    c.ppuRead b = some (c.chr.read chrIndex) ∧
    c.ppuWrite b v = some (if c.chrBanks = 0 then { c with chr := c.chr.write chrIndex v } else c) ∧
    c.cpuWrite a v = some { c with mapper := .mmc3 w } ∧
    (window = 0 → ¬ odd →
      w = { m with bankSelect := BitVec.ofNat 3 v.toNat, prgMode := v.getLsbD 6, chrMode := v.getLsbD 7 }) ∧
    (window = 0 → odd →
      w = { m with regs := w.regs } ∧
      (∀ k : Fin 8, k.val ≠ m.bankSelect.toNat → w.regs[k] = m.regs[k]) ∧
      (∀ k : Fin 8, k.val = m.bankSelect.toNat → w.regs[k] =
        if k.val < 2 then v &&& 0xFE else if 6 ≤ k.val then v &&& 0x3F else v)) ∧
    (window = 1 → ¬ odd → w = { m with mirroring := if v.getLsbD 0 then .horizontal else .vertical }) ∧
    (window = 1 → odd → w = m) ∧
    (window = 2 → ¬ odd → w = { m with irqLatch := v }) ∧
    (window = 2 → odd → w = { m with irqReload := true }) ∧
    (window = 3 → ¬ odd → w = { m with irqEnabled := false, irqAsserted := false }) ∧
    (window = 3 → odd → w = { m with irqEnabled := true })

/-- MMC3 IRQ: the filtered A12 rise on every PPU bus access, the counter, the period of latch + 1 clocks, and the
output (52_cartridge_mappers.md R1260, 52_cartridge_mappers.md R1261, 52_cartridge_mappers.md R1262,
52_cartridge_mappers.md R1263, 51_ppu_rendering.md R1101, 51_ppu_rendering.md R1102). -/
def Obligations.Mmc3IrqCounter : Prop :=
  (∀ (m : Mmc3) (minLow : Nat) (a : BitVec 14),
    let rise := a.getLsbD 12 = true ∧ m.a12Prev = false ∧ minLow ≤ m.a12LowCycles
    (rise → m.snoop minLow a = { m.clockIrq with a12Prev := true, a12LowCycles := 0 }) ∧
    (¬ rise → m.snoop minLow a =
      { m with a12Prev := a.getLsbD 12, a12LowCycles := if a.getLsbD 12 then 0 else m.a12LowCycles })) ∧
  (∀ (s : State) (c : Cartridge) (a : BitVec 14) (v : Byte), s.cart = some c →
    (0x3F00 ≤ a.toNat → s.afterPpuRead a = s ∧ (s.ppuWrite a v).cart = some c) ∧
    (a.toNat < 0x3F00 → ∀ m, c.mapper = .mmc3 m →
      let seen : Mapper := .mmc3 (m.snoop s.params.mmc3A12M2Min a)
      s.afterPpuRead a = { s with cart := some { c with mapper := seen } } ∧
      ∃ d, (s.ppuWrite a v).cart = some { c with mapper := seen, chr := d }) ∧
    (a.toNat < 0x3F00 → c.mapper.number ≠ 4 →
      s.afterPpuRead a = s ∧ ∃ d, (s.ppuWrite a v).cart = some { c with chr := d })) ∧
  (∀ (c : Cartridge) (m : Mmc3), c.mapper = .mmc3 m →
    c.cpuClock = { c with mapper := .mmc3 { m with a12LowCycles := m.a12LowCycles + (if m.a12Prev then 0 else 1) } }) ∧
  (∀ m : Mmc3, m.irqCounter = 0 → m.irqEnabled = true → m.irqAsserted = false →
    ∀ k, (Mmc3.clockIrq^[k] m).irqAsserted = decide (m.irqLatch.toNat + 1 ≤ k)) ∧
  (∀ m : Mmc3, m.irqReload = true → m.clockIrq.irqCounter = m.irqLatch ∧ m.clockIrq.irqReload = false) ∧
  (∀ m : Mmc3, m.irqCounter ≠ 0 → m.irqReload = false → m.clockIrq.irqCounter.toNat = m.irqCounter.toNat - 1) ∧
  (∀ (s : State) (c : Cartridge), s.cart = some c →
    (∀ m, c.mapper = .mmc3 m → s.irqLine = m.irqAsserted) ∧ (c.mapper.number ≠ 4 → s.irqLine = false))

/-- Power-on holds the draw; loading an image: when it succeeds, the cartridge it gives, and no cartridge otherwise
(52_cartridge_mappers.md R1200, 52_cartridge_mappers.md R1201, 52_cartridge_mappers.md R1202,
52_cartridge_mappers.md R1203, 52_cartridge_mappers.md R1204, 52_cartridge_mappers.md R1205, 10_state.md R141,
00_scope.md R11, 70_reset_and_hazards.md R1500). That a draw is a list of bytes with $00 past its end, which the
clauses with getD of a draw say, and that each load takes a draw of its own are the model's choice (log 1); so is
that a load answers in any state, where R18 allows it before reset only (log 17); which status a failed load returns
is left out (log 18). -/
def Obligations.CartridgeLoad : Prop :=
  (∀ (params : Params) (draw : PowerOnState),
    let p := powerOn params draw
    p.cart = none ∧ p.params = params ∧ p.ppu.palette = draw.ppu.palette ∧ p.cpu = draw.cpu ∧
    p.ram.Inv 2048 ∧ (∀ i, i < 2048 → p.ram.read i = draw.ram.getD i 0) ∧
    p.vram.Inv 2048 ∧ (∀ i, i < 2048 → p.vram.read i = draw.vram.getD i 0) ∧
    p.ppu.oam.Inv 256 ∧ (∀ i, i < 256 → p.ppu.oam.read i = draw.oam.getD i 0) ∧
    p.ppu.secOam.Inv 32 ∧ (∀ i, i < 32 → p.ppu.secOam.read i = draw.secOam.getD i 0)) ∧
  (∀ (draw : PowerOnState) (s : State) (image : List Byte),
    let byte (i : Nat) : Byte := image.getD i 0
    let number := (byte 7).toNat / 16 * 16 + (byte 6).toNat / 16
    let start := if (byte 6).getLsbD 2 then 528 else 16
    let good := image.take 4 = [0x4E, 0x45, 0x53, 0x1A] ∧ number ∈ [0, 2, 3, 4, 66] ∧ (byte 6).getLsbD 3 = false ∧
      (byte 4).toNat ≠ 0 ∧ start + 16384 * (byte 4).toNat + 8192 * (byte 5).toNat ≤ image.length
    let mirroring : Mirroring := if (byte 6).getLsbD 0 then .vertical else .horizontal
    let t := (hostLoad draw image s).1
    (¬ good → t = { s with cart := none } ∧ (hostLoad draw image s).2.isSome = true) ∧
    (good → ∃ c, t = { s with cart := some c } ∧ (hostLoad draw image s).2 = none ∧ c.Inv ∧
      c.prgBanks = (byte 4).toNat ∧ c.chrBanks = (byte 5).toNat ∧ c.mapper.number = number ∧
      c.mirroring = mirroring ∧
      c.battery = (byte 6).getLsbD 1 ∧
      c.mapper = (match c.mapper with
        | .nrom => .nrom
        | .uxrom _ => .uxrom 0
        | .cnrom _ => .cnrom 0
        | .gxrom _ _ => .gxrom 0 0
        | .mmc3 _ => .mmc3
          { bankSelect := 0, prgMode := false, chrMode := false, regs := Vector.replicate 8 0, mirroring := mirroring,
            irqLatch := 0, irqCounter := 0, irqReload := false, irqEnabled := false, irqAsserted := false,
            a12Prev := false, a12LowCycles := 0 }) ∧
      (c.prgRam.isSome = ((byte 6).getLsbD 1 || s.params.prgRamWithoutBattery)) ∧
      c.prgRamSize = 8192 * max 1 (byte 8).toNat ∧
      (∀ m, c.prgRam = some m → ∀ i, i < c.prgRamSize → m.read i = draw.prgRam.getD i 0) ∧
      (∀ i, i < 16384 * c.prgBanks → c.prgRom.read i = byte (start + i)) ∧
      (∀ i, i < 8192 * c.chrBanks → c.chr.read i = byte (start + 16384 * c.prgBanks + i)) ∧
      (c.chrBanks = 0 → ∀ i, i < 8192 → c.chr.read i = draw.chrRam.getD i 0)))

/-- Reset: every register it sets, every memory it keeps, and PC through the reset bank layout
(70_reset_and_hazards.md R1501, 70_reset_and_hazards.md R1503, 52_cartridge_mappers.md R1270). The absent sprite
byte in flight is the model's choice (log 7), sec_has_zero is read from R1501 by inference (log 16). -/
def Obligations.ResetResult : Prop :=
  ∀ s : State,
    let t := hostReset s
    let m : State := { s with cart := s.cart.map Cartridge.resetMapper }
    t.cart = m.cart ∧
    (∀ c, s.cart = some c → ∀ d, t.cart = some d →
      d = { c with mapper := match c.mapper with
        | .nrom => .nrom
        | .uxrom _ => .uxrom 0
        | .cnrom _ => .cnrom 0
        | .gxrom _ _ => .gxrom 0 0
        | .mmc3 _ => .mmc3
          { bankSelect := 0, prgMode := false, chrMode := false, regs := Vector.replicate 8 0, mirroring := c.mirroring,
            irqLatch := 0, irqCounter := 0, irqReload := false, irqEnabled := false, irqAsserted := false,
            a12Prev := false, a12LowCycles := 0 } } ∧
      d.irqOutput = false) ∧
    t.clock = 0 ∧ t.strobe = false ∧ t.shift1 = 0 ∧ t.shift2 = 0 ∧
    t.ppu =
      { ctrl := 0, mask := 0, vbl := false, sprite0Hit := false, overflow := false, oamAddr := 0, v := 0, t := 0, fineX := 0,
        w := false, readBuffer := 0, openBus := 0, openBusAge := 0, scanline := -1, dot := 0, frame := 0,
        oam := s.ppu.oam, secOam := s.ppu.secOam, secCount := 0, secHasZero := false, palette := s.ppu.palette,
        bgPatLo := 0, bgPatHi := 0, bgAttrLo := 0, bgAttrHi := 0, ntNext := 0, atNext := 0, patLoNext := 0,
        patHiNext := 0, slots := Vector.replicate 8 ⟨0, 0, 0, 0⟩, sprCount := 0, sprZeroInLine := false,
        sprLoLatch := none, vblSuppress := false, nmiCallbackRegistered := s.ppu.nmiCallbackRegistered } ∧
    t.cpu =
      { a := 0, x := 0, y := 0, sp := 0xFD, p := s.params.resetP, cycles := 7, halted := false, nmiPending := false,
        cycleCount := 0, dmaStall := 0
        pc := wordOf (m.busRead 0xFFFC) (m.busRead 0xFFFD) } ∧
    t.ram = s.ram ∧ t.vram = s.vram ∧ t.params = s.params ∧ t.buttons1 = s.buttons1 ∧ t.buttons2 = s.buttons2

/-- The invariant holds at State.reset and after every power-on, load and reset (70_reset_and_hazards.md R1500,
70_reset_and_hazards.md R1501, 70_reset_and_hazards.md R1503, 10_state.md R103, 10_state.md R124, 00_scope.md R11).
The blank cartridge and the zero memories of State.reset are the model's choice (log 1, log 2). -/
def Obligations.InvariantAtReset : Prop :=
  State.reset.Inv ∧ State.reset.Ready ∧
  ∀ (params : Params) (draw : PowerOnState) (image : List Byte),
    flagB params.resetP = false → flagU params.resetP = true →
    let loaded := hostLoad draw image (powerOn params draw)
    loaded.2 = none → (hostReset loaded.1).Inv ∧ (hostReset loaded.1).Ready

/-- Every step of a machine with a cartridge completes and keeps the invariant (10_state.md R103, 10_state.md R124,
10_state.md R126, 10_state.md R128, 10_state.md R160, 10_state.md R161, 52_cartridge_mappers.md R1240,
53_bus_dma_controller.md R1301, 30_encoding.md R303). That a step without a cartridge is the fault noCartridge is
the model's choice (log 13). -/
def Obligations.StepKeepsInvariant : Prop :=
  (∀ s : State, s.Inv → s.Ready → ∃ t, step s = .next t ∧ t.Inv ∧ t.Ready) ∧
  (∀ s : State, ¬ s.Ready → step s = .fault .noCartridge)

/-- No step changes PRG-ROM, CHR-ROM, the header fields, the parameters or the host inputs (52_cartridge_mappers.md
R1208, 52_cartridge_mappers.md R1210, 52_cartridge_mappers.md R1203, 20_memory.md R233, 00_scope.md R11, 00_scope.md
R18). That parameters, buttons and the callback's registration are fields of State is the model's choice (log 3, log
5, log 14). -/
def Obligations.StepNeverWritesRom : Prop :=
  ∀ s t : State, step s = .next t →
    t.params = s.params ∧ t.buttons1 = s.buttons1 ∧ t.buttons2 = s.buttons2 ∧
    t.ppu.nmiCallbackRegistered = s.ppu.nmiCallbackRegistered ∧
    ∀ c, s.cart = some c → ∃ d, t.cart = some d ∧
      d.prgRom = c.prgRom ∧ d.prgBanks = c.prgBanks ∧ d.chrBanks = c.chrBanks ∧ d.prgRamBanks = c.prgRamBanks ∧
      d.mirroring = c.mirroring ∧ d.battery = c.battery ∧ d.mapper.number = c.mapper.number ∧
      d.prgRam.isSome = c.prgRam.isSome ∧ (c.chrBanks ≠ 0 → d.chr = c.chr)

/-- The decimal flag changes the result of no instruction but a push of P (10_state.md R107, 10_state.md R106,
42_arith_logic.md R600). -/
def Obligations.DecimalFlagIsInert : Prop :=
  ∀ (i : Instr) (s : State) (d : Bool), i.mnemonic ∉ [.php, .brk] →
    ∃ t, exec i s = .next t ∧
      exec i (s.setP (withD s.cpu.p d)) = .next
        (if i.mnemonic ∈ [.cld, .sed, .plp, .rti] then t else t.setP (withD t.cpu.p d))

/-- No instruction moves the PPU, touches its pipelines or secondary OAM, or halts the CPU (20_memory.md R202,
40_addressing_and_cycle.md R441, 60_exceptions.md R1400, 10_state.md R111, 10_state.md R113, 10_state.md R115,
53_bus_dma_controller.md R1320). The fields result, pixel and freeCount are the model's own (log 6, log 7). -/
def Obligations.ExecLeavesTheRest : Prop :=
  ∀ (i : Instr) (s : State), i.wellFormed = true →
    ∃ t, exec i s = .next t ∧
      t.ppu.scanline = s.ppu.scanline ∧ t.ppu.dot = s.ppu.dot ∧ t.ppu.frame = s.ppu.frame ∧
      t.ppu.bgPatLo = s.ppu.bgPatLo ∧ t.ppu.bgPatHi = s.ppu.bgPatHi ∧ t.ppu.bgAttrLo = s.ppu.bgAttrLo ∧
      t.ppu.bgAttrHi = s.ppu.bgAttrHi ∧ t.ppu.ntNext = s.ppu.ntNext ∧ t.ppu.atNext = s.ppu.atNext ∧
      t.ppu.patLoNext = s.ppu.patLoNext ∧ t.ppu.patHiNext = s.ppu.patHiNext ∧ t.ppu.slots = s.ppu.slots ∧
      t.ppu.sprCount = s.ppu.sprCount ∧ t.ppu.sprZeroInLine = s.ppu.sprZeroInLine ∧
      t.ppu.secOam = s.ppu.secOam ∧ t.ppu.secCount = s.ppu.secCount ∧ t.ppu.secHasZero = s.ppu.secHasZero ∧
      t.clock = s.clock ∧ t.result = s.result ∧ t.pixel = s.pixel ∧ t.freeCount = s.freeCount ∧
      t.cpu.halted = s.cpu.halted ∧ t.cpu.cycleCount = s.cpu.cycleCount ∧
      t.cpu.dmaStall = 0 ∧ 2 ≤ t.cpu.cycles
end

