-- ==== Sys2Proof/Laws/Memory.lean ====
section
/-! SUPPORT. Byte buffers: a read after a write, the canonical form, and the bound. -/

namespace Sys2Proof.Machine

@[simp] theorem Memory.read_nil (i : Nat) : Memory.read [] i = 0 := rfl

theorem Memory.read_cons (k : Nat) (b : Byte) (m : Memory) (i : Nat) :
    Memory.read ((k, b) :: m) i = if k = i then b else Memory.read m i := rfl

theorem Memory.read_insert (m : Memory) (i : Nat) (v : Byte) (j : Nat) :
    (Memory.insert m i v).read j = if i = j then v else m.read j := by
  induction m with
  | nil => simp [Memory.insert, Memory.read]
  | cons c m ih =>
    obtain ⟨k, b⟩ := c
    simp only [Memory.insert]
    split
    · simp [Memory.read]
    · split
      · next h => subst h; simp only [Memory.read]; split <;> simp_all
      · next h => simp only [Memory.read, ih]; split <;> simp_all <;> omega

theorem Memory.read_filter (m : Memory) (i j : Nat) :
    Memory.read (m.filter (fun c => c.1 != i)) j = if i = j then 0 else m.read j := by
  induction m with
  | nil => simp [Memory.read, Memory.unlisted]
  | cons c m ih =>
    obtain ⟨k, b⟩ := c
    by_cases h : k = i
    · subst h
      simp only [List.filter_cons, bne_self_eq_false, Bool.false_eq_true, if_false, ih, Memory.read]
      split <;> simp_all
    · have h' : (k != i) = true := by simpa using h
      simp only [List.filter_cons, h', if_true, Memory.read, ih]
      split <;> simp_all <;> omega

/-- A read after a write: the value written there, and what was there before anywhere else. -/
theorem Memory.read_write (m : Memory) (i : Nat) (v : Byte) (j : Nat) :
    (m.write i v).read j = if i = j then v else m.read j := by
  unfold Memory.write
  split
  · next h => rw [Memory.read_filter, h]; rfl
  · exact Memory.read_insert m i v j

@[simp] theorem Memory.read_write_same (m : Memory) (i : Nat) (v : Byte) : (m.write i v).read i = v := by
  simp [Memory.read_write]

theorem Memory.read_write_ne (m : Memory) {i j : Nat} (v : Byte) (h : i ≠ j) : (m.write i v).read j = m.read j := by
  simp [Memory.read_write, h]

/-! ## The canonical form -/

theorem Memory.wfFrom_mono {m : Memory} {n k : Nat} (h : Memory.wfFrom n m = true) (hk : k ≤ n) :
    Memory.wfFrom k m = true := by
  cases m with
  | nil => rfl
  | cons c m =>
    simp only [Memory.wfFrom, Bool.and_eq_true, decide_eq_true_eq] at h ⊢
    exact ⟨⟨by omega, h.1.2⟩, h.2⟩

theorem Memory.wfFrom_filter {m : Memory} (f : Host.Cell → Bool) {n : Nat} (h : Memory.wfFrom n m = true) :
    Memory.wfFrom n (m.filter f) = true := by
  induction m generalizing n with
  | nil => rfl
  | cons c m ih =>
    simp only [Memory.wfFrom, Bool.and_eq_true, decide_eq_true_eq] at h
    simp only [List.filter_cons]
    split
    · simp only [Memory.wfFrom, Bool.and_eq_true, decide_eq_true_eq]
      exact ⟨h.1, ih h.2⟩
    · exact Memory.wfFrom_mono (ih h.2) (by omega)

theorem Memory.wfFrom_insert {m : Memory} {n i : Nat} {v : Byte} (hv : v ≠ 0) (hi : n ≤ i)
    (h : Memory.wfFrom n m = true) : Memory.wfFrom n (Memory.insert m i v) = true := by
  induction m generalizing n with
  | nil => simpa [Memory.insert, Memory.wfFrom, Memory.unlisted, hi] using hv
  | cons c m ih =>
    obtain ⟨k, b⟩ := c
    simp only [Memory.wfFrom, Bool.and_eq_true, decide_eq_true_eq] at h
    simp only [Memory.insert]
    split
    · simp only [Memory.wfFrom, Bool.and_eq_true, decide_eq_true_eq]
      exact ⟨⟨hi, by simpa [Memory.unlisted] using hv⟩, ⟨by omega, h.1.2⟩, h.2⟩
    · split
      · next hk =>
        subst hk
        simp only [Memory.wfFrom, Bool.and_eq_true, decide_eq_true_eq]
        exact ⟨⟨hi, by simpa [Memory.unlisted] using hv⟩, h.2⟩
      · simp only [Memory.wfFrom, Bool.and_eq_true, decide_eq_true_eq]
        exact ⟨h.1, ih (by omega) h.2⟩

/-- A write keeps the canonical form. -/
theorem Memory.wf_write {m : Memory} (i : Nat) (v : Byte) (h : m.wf = true) : (m.write i v).wf = true := by
  unfold Memory.write
  split
  · exact Memory.wfFrom_filter _ h
  · next hv => exact Memory.wfFrom_insert hv (Nat.zero_le i) h

theorem Memory.bounded_insert {size : Nat} {m : Memory} {i : Nat} {v : Byte} (hi : i < size)
    (h : m.bounded size = true) : Memory.bounded size (Memory.insert m i v) = true := by
  induction m with
  | nil => simpa [Memory.insert, Memory.bounded] using hi
  | cons c m ih =>
    obtain ⟨k, b⟩ := c
    simp only [Memory.bounded, List.all_cons, Bool.and_eq_true, decide_eq_true_eq] at h ih ⊢
    simp only [Memory.insert]
    split
    · simpa [hi] using h
    · split
      · simpa [hi] using h.2
      · simpa [h.1] using ih h.2

/-- A write inside the buffer keeps the bound. -/
theorem Memory.bounded_write {size : Nat} {m : Memory} {i : Nat} (v : Byte) (hi : i < size)
    (h : m.bounded size = true) : (m.write i v).bounded size = true := by
  unfold Memory.write
  split
  · simp only [Memory.bounded, List.all_eq_true, decide_eq_true_eq, List.mem_filter] at h ⊢
    exact fun c hc => h c hc.1
  · exact Memory.bounded_insert hi h

theorem Memory.Inv.write {size : Nat} {m : Memory} {i : Nat} (v : Byte) (h : m.Inv size) (hi : i < size) :
    (m.write i v).Inv size :=
  ⟨Memory.wf_write i v h.1, Memory.bounded_write v hi h.2⟩

theorem Memory.Inv.nil (size : Nat) : Memory.Inv size [] := ⟨rfl, rfl⟩

/-- Filling inside the buffer keeps its form. -/
theorem Memory.Inv.fill {size : Nat} {m : Memory} (v : Byte) (n i : Nat) (h : m.Inv size) (hi : i + n ≤ size) :
    (m.fill i n v).Inv size := by
  induction n generalizing m i with
  | zero => exact h
  | succ n ih => exact ih (i + 1) (h.write v (by omega)) (by omega)

theorem Memory.read_fill (m : Memory) (v : Byte) (n i j : Nat) :
    (m.fill i n v).read j = if i ≤ j ∧ j < i + n then v else m.read j := by
  induction n generalizing m i with
  | zero => simp [Memory.fill]
  | succ n ih =>
    rw [Memory.fill, ih, Memory.read_write]
    split <;> split <;> first | rfl | omega | skip
    all_goals split <;> first | rfl | omega

/-- Reading below the first index of a canonical buffer finds nothing. -/
theorem Memory.read_of_lt {m : Memory} {n i : Nat} (h : Memory.wfFrom n m = true) (hi : i < n) : m.read i = 0 := by
  induction m generalizing n with
  | nil => rfl
  | cons c m ih =>
    obtain ⟨k, b⟩ := c
    simp only [Memory.wfFrom, Bool.and_eq_true, decide_eq_true_eq] at h
    rw [Memory.read_cons, if_neg (by omega)]
    exact ih h.2 (by omega)

/-- Equal memories are equal data: two canonical buffers that read alike are the same list. -/
theorem Memory.ext_read {m m' : Memory} (h : m.wf = true) (h' : m'.wf = true) (hr : ∀ i, m.read i = m'.read i) :
    m = m' := by
  suffices H : ∀ n, Memory.wfFrom n m = true → Memory.wfFrom n m' = true → m = m' from H 0 h h'
  clear h h'
  induction m generalizing m' with
  | nil =>
    intro n _ h'
    cases m' with
    | nil => rfl
    | cons c m' =>
      obtain ⟨k, b⟩ := c
      have := hr k
      simp only [Memory.wfFrom, Bool.and_eq_true, decide_eq_true_eq] at h'
      simp [Memory.read, Memory.unlisted] at this h'
      exact absurd this.symm h'.1.2
  | cons c m ih =>
    obtain ⟨k, b⟩ := c
    intro n h h'
    simp only [Memory.wfFrom, Bool.and_eq_true, decide_eq_true_eq] at h
    cases m' with
    | nil =>
      have := hr k
      simp [Memory.read, Memory.unlisted] at this h
      exact absurd this h.1.2
    | cons c' m' =>
      obtain ⟨k', b'⟩ := c'
      simp only [Memory.wfFrom, Bool.and_eq_true, decide_eq_true_eq] at h'
      have hb : b ≠ 0 := by simpa [Memory.unlisted] using h.1.2
      have hb' : b' ≠ 0 := by simpa [Memory.unlisted] using h'.1.2
      have hk : k = k' := by
        rcases Nat.lt_trichotomy k k' with hlt | heq | hgt
        · have := hr k
          rw [Memory.read_cons, if_pos rfl, Memory.read_cons, if_neg (by omega),
            Memory.read_of_lt h'.2 (by omega)] at this
          exact absurd this hb
        · exact heq
        · have := hr k'
          rw [Memory.read_cons, if_neg (by omega), Memory.read_of_lt h.2 (by omega), Memory.read_cons,
            if_pos rfl] at this
          exact absurd this.symm hb'
      subst hk
      have hbb : b = b' := by simpa [Memory.read] using hr k
      subst hbb
      have : m = m' := by
        refine ih (fun i => ?_) (k + 1) h.2 h'.2
        by_cases hi : k = i
        · subst hi
          rw [Memory.read_of_lt h.2 (by omega), Memory.read_of_lt h'.2 (by omega)]
        · have := hr i
          simpa [Memory.read, hi] using this
      rw [this]

end Sys2Proof.Machine
end

