-- ==== Sys2Proof/Laws/State.lean ====
section
/-! SUPPORT. What each named update of State leaves in each field: true by rfl, and simp's way around record updates. -/

namespace Sys2Proof.Machine

variable (s : State)

@[simp] theorem State.setA_cpu (v : Byte) : (s.setA v).cpu = { s.cpu with a := v } := rfl
@[simp] theorem State.setA_ppu (v : Byte) : (s.setA v).ppu = s.ppu := rfl
@[simp] theorem State.setA_cart (v : Byte) : (s.setA v).cart = s.cart := rfl
@[simp] theorem State.setA_ram (v : Byte) : (s.setA v).ram = s.ram := rfl
@[simp] theorem State.setA_vram (v : Byte) : (s.setA v).vram = s.vram := rfl
@[simp] theorem State.setA_clock (v : Byte) : (s.setA v).clock = s.clock := rfl
@[simp] theorem State.setA_strobe (v : Byte) : (s.setA v).strobe = s.strobe := rfl
@[simp] theorem State.setA_shift1 (v : Byte) : (s.setA v).shift1 = s.shift1 := rfl
@[simp] theorem State.setA_shift2 (v : Byte) : (s.setA v).shift2 = s.shift2 := rfl
@[simp] theorem State.setA_buttons1 (v : Byte) : (s.setA v).buttons1 = s.buttons1 := rfl
@[simp] theorem State.setA_buttons2 (v : Byte) : (s.setA v).buttons2 = s.buttons2 := rfl
@[simp] theorem State.setA_params (v : Byte) : (s.setA v).params = s.params := rfl
@[simp] theorem State.setA_result (v : Byte) : (s.setA v).result = s.result := rfl
@[simp] theorem State.setA_pixel (v : Byte) : (s.setA v).pixel = s.pixel := rfl
@[simp] theorem State.setA_freeCount (v : Byte) : (s.setA v).freeCount = s.freeCount := rfl

@[simp] theorem State.setX_cpu (v : Byte) : (s.setX v).cpu = { s.cpu with x := v } := rfl
@[simp] theorem State.setX_ppu (v : Byte) : (s.setX v).ppu = s.ppu := rfl
@[simp] theorem State.setX_cart (v : Byte) : (s.setX v).cart = s.cart := rfl
@[simp] theorem State.setX_ram (v : Byte) : (s.setX v).ram = s.ram := rfl
@[simp] theorem State.setX_vram (v : Byte) : (s.setX v).vram = s.vram := rfl
@[simp] theorem State.setX_clock (v : Byte) : (s.setX v).clock = s.clock := rfl
@[simp] theorem State.setX_strobe (v : Byte) : (s.setX v).strobe = s.strobe := rfl
@[simp] theorem State.setX_shift1 (v : Byte) : (s.setX v).shift1 = s.shift1 := rfl
@[simp] theorem State.setX_shift2 (v : Byte) : (s.setX v).shift2 = s.shift2 := rfl
@[simp] theorem State.setX_buttons1 (v : Byte) : (s.setX v).buttons1 = s.buttons1 := rfl
@[simp] theorem State.setX_buttons2 (v : Byte) : (s.setX v).buttons2 = s.buttons2 := rfl
@[simp] theorem State.setX_params (v : Byte) : (s.setX v).params = s.params := rfl
@[simp] theorem State.setX_result (v : Byte) : (s.setX v).result = s.result := rfl
@[simp] theorem State.setX_pixel (v : Byte) : (s.setX v).pixel = s.pixel := rfl
@[simp] theorem State.setX_freeCount (v : Byte) : (s.setX v).freeCount = s.freeCount := rfl

@[simp] theorem State.setY_cpu (v : Byte) : (s.setY v).cpu = { s.cpu with y := v } := rfl
@[simp] theorem State.setY_ppu (v : Byte) : (s.setY v).ppu = s.ppu := rfl
@[simp] theorem State.setY_cart (v : Byte) : (s.setY v).cart = s.cart := rfl
@[simp] theorem State.setY_ram (v : Byte) : (s.setY v).ram = s.ram := rfl
@[simp] theorem State.setY_vram (v : Byte) : (s.setY v).vram = s.vram := rfl
@[simp] theorem State.setY_clock (v : Byte) : (s.setY v).clock = s.clock := rfl
@[simp] theorem State.setY_strobe (v : Byte) : (s.setY v).strobe = s.strobe := rfl
@[simp] theorem State.setY_shift1 (v : Byte) : (s.setY v).shift1 = s.shift1 := rfl
@[simp] theorem State.setY_shift2 (v : Byte) : (s.setY v).shift2 = s.shift2 := rfl
@[simp] theorem State.setY_buttons1 (v : Byte) : (s.setY v).buttons1 = s.buttons1 := rfl
@[simp] theorem State.setY_buttons2 (v : Byte) : (s.setY v).buttons2 = s.buttons2 := rfl
@[simp] theorem State.setY_params (v : Byte) : (s.setY v).params = s.params := rfl
@[simp] theorem State.setY_result (v : Byte) : (s.setY v).result = s.result := rfl
@[simp] theorem State.setY_pixel (v : Byte) : (s.setY v).pixel = s.pixel := rfl
@[simp] theorem State.setY_freeCount (v : Byte) : (s.setY v).freeCount = s.freeCount := rfl

@[simp] theorem State.setSp_cpu (v : Byte) : (s.setSp v).cpu = { s.cpu with sp := v } := rfl
@[simp] theorem State.setSp_ppu (v : Byte) : (s.setSp v).ppu = s.ppu := rfl
@[simp] theorem State.setSp_cart (v : Byte) : (s.setSp v).cart = s.cart := rfl
@[simp] theorem State.setSp_ram (v : Byte) : (s.setSp v).ram = s.ram := rfl
@[simp] theorem State.setSp_vram (v : Byte) : (s.setSp v).vram = s.vram := rfl
@[simp] theorem State.setSp_clock (v : Byte) : (s.setSp v).clock = s.clock := rfl
@[simp] theorem State.setSp_strobe (v : Byte) : (s.setSp v).strobe = s.strobe := rfl
@[simp] theorem State.setSp_shift1 (v : Byte) : (s.setSp v).shift1 = s.shift1 := rfl
@[simp] theorem State.setSp_shift2 (v : Byte) : (s.setSp v).shift2 = s.shift2 := rfl
@[simp] theorem State.setSp_buttons1 (v : Byte) : (s.setSp v).buttons1 = s.buttons1 := rfl
@[simp] theorem State.setSp_buttons2 (v : Byte) : (s.setSp v).buttons2 = s.buttons2 := rfl
@[simp] theorem State.setSp_params (v : Byte) : (s.setSp v).params = s.params := rfl
@[simp] theorem State.setSp_result (v : Byte) : (s.setSp v).result = s.result := rfl
@[simp] theorem State.setSp_pixel (v : Byte) : (s.setSp v).pixel = s.pixel := rfl
@[simp] theorem State.setSp_freeCount (v : Byte) : (s.setSp v).freeCount = s.freeCount := rfl

@[simp] theorem State.setPc_cpu (v : Word) : (s.setPc v).cpu = { s.cpu with pc := v } := rfl
@[simp] theorem State.setPc_ppu (v : Word) : (s.setPc v).ppu = s.ppu := rfl
@[simp] theorem State.setPc_cart (v : Word) : (s.setPc v).cart = s.cart := rfl
@[simp] theorem State.setPc_ram (v : Word) : (s.setPc v).ram = s.ram := rfl
@[simp] theorem State.setPc_vram (v : Word) : (s.setPc v).vram = s.vram := rfl
@[simp] theorem State.setPc_clock (v : Word) : (s.setPc v).clock = s.clock := rfl
@[simp] theorem State.setPc_strobe (v : Word) : (s.setPc v).strobe = s.strobe := rfl
@[simp] theorem State.setPc_shift1 (v : Word) : (s.setPc v).shift1 = s.shift1 := rfl
@[simp] theorem State.setPc_shift2 (v : Word) : (s.setPc v).shift2 = s.shift2 := rfl
@[simp] theorem State.setPc_buttons1 (v : Word) : (s.setPc v).buttons1 = s.buttons1 := rfl
@[simp] theorem State.setPc_buttons2 (v : Word) : (s.setPc v).buttons2 = s.buttons2 := rfl
@[simp] theorem State.setPc_params (v : Word) : (s.setPc v).params = s.params := rfl
@[simp] theorem State.setPc_result (v : Word) : (s.setPc v).result = s.result := rfl
@[simp] theorem State.setPc_pixel (v : Word) : (s.setPc v).pixel = s.pixel := rfl
@[simp] theorem State.setPc_freeCount (v : Word) : (s.setPc v).freeCount = s.freeCount := rfl

@[simp] theorem State.setP_cpu (v : Byte) : (s.setP v).cpu = { s.cpu with p := v } := rfl
@[simp] theorem State.setP_ppu (v : Byte) : (s.setP v).ppu = s.ppu := rfl
@[simp] theorem State.setP_cart (v : Byte) : (s.setP v).cart = s.cart := rfl
@[simp] theorem State.setP_ram (v : Byte) : (s.setP v).ram = s.ram := rfl
@[simp] theorem State.setP_vram (v : Byte) : (s.setP v).vram = s.vram := rfl
@[simp] theorem State.setP_clock (v : Byte) : (s.setP v).clock = s.clock := rfl
@[simp] theorem State.setP_strobe (v : Byte) : (s.setP v).strobe = s.strobe := rfl
@[simp] theorem State.setP_shift1 (v : Byte) : (s.setP v).shift1 = s.shift1 := rfl
@[simp] theorem State.setP_shift2 (v : Byte) : (s.setP v).shift2 = s.shift2 := rfl
@[simp] theorem State.setP_buttons1 (v : Byte) : (s.setP v).buttons1 = s.buttons1 := rfl
@[simp] theorem State.setP_buttons2 (v : Byte) : (s.setP v).buttons2 = s.buttons2 := rfl
@[simp] theorem State.setP_params (v : Byte) : (s.setP v).params = s.params := rfl
@[simp] theorem State.setP_result (v : Byte) : (s.setP v).result = s.result := rfl
@[simp] theorem State.setP_pixel (v : Byte) : (s.setP v).pixel = s.pixel := rfl
@[simp] theorem State.setP_freeCount (v : Byte) : (s.setP v).freeCount = s.freeCount := rfl

@[simp] theorem State.setNZ_cpu (v : Byte) : (s.setNZ v).cpu = { s.cpu with p := nzOf s.cpu.p v } := rfl
@[simp] theorem State.setNZ_ppu (v : Byte) : (s.setNZ v).ppu = s.ppu := rfl
@[simp] theorem State.setNZ_cart (v : Byte) : (s.setNZ v).cart = s.cart := rfl
@[simp] theorem State.setNZ_ram (v : Byte) : (s.setNZ v).ram = s.ram := rfl
@[simp] theorem State.setNZ_vram (v : Byte) : (s.setNZ v).vram = s.vram := rfl
@[simp] theorem State.setNZ_clock (v : Byte) : (s.setNZ v).clock = s.clock := rfl
@[simp] theorem State.setNZ_strobe (v : Byte) : (s.setNZ v).strobe = s.strobe := rfl
@[simp] theorem State.setNZ_shift1 (v : Byte) : (s.setNZ v).shift1 = s.shift1 := rfl
@[simp] theorem State.setNZ_shift2 (v : Byte) : (s.setNZ v).shift2 = s.shift2 := rfl
@[simp] theorem State.setNZ_buttons1 (v : Byte) : (s.setNZ v).buttons1 = s.buttons1 := rfl
@[simp] theorem State.setNZ_buttons2 (v : Byte) : (s.setNZ v).buttons2 = s.buttons2 := rfl
@[simp] theorem State.setNZ_params (v : Byte) : (s.setNZ v).params = s.params := rfl
@[simp] theorem State.setNZ_result (v : Byte) : (s.setNZ v).result = s.result := rfl
@[simp] theorem State.setNZ_pixel (v : Byte) : (s.setNZ v).pixel = s.pixel := rfl
@[simp] theorem State.setNZ_freeCount (v : Byte) : (s.setNZ v).freeCount = s.freeCount := rfl

@[simp] theorem State.compare_cpu (r m : Byte) : (s.compare r m).cpu = { s.cpu with p := compareFlags s.cpu.p r m } := rfl
@[simp] theorem State.compare_ppu (r m : Byte) : (s.compare r m).ppu = s.ppu := rfl
@[simp] theorem State.compare_cart (r m : Byte) : (s.compare r m).cart = s.cart := rfl
@[simp] theorem State.compare_ram (r m : Byte) : (s.compare r m).ram = s.ram := rfl
@[simp] theorem State.compare_vram (r m : Byte) : (s.compare r m).vram = s.vram := rfl
@[simp] theorem State.compare_clock (r m : Byte) : (s.compare r m).clock = s.clock := rfl
@[simp] theorem State.compare_strobe (r m : Byte) : (s.compare r m).strobe = s.strobe := rfl
@[simp] theorem State.compare_shift1 (r m : Byte) : (s.compare r m).shift1 = s.shift1 := rfl
@[simp] theorem State.compare_shift2 (r m : Byte) : (s.compare r m).shift2 = s.shift2 := rfl
@[simp] theorem State.compare_buttons1 (r m : Byte) : (s.compare r m).buttons1 = s.buttons1 := rfl
@[simp] theorem State.compare_buttons2 (r m : Byte) : (s.compare r m).buttons2 = s.buttons2 := rfl
@[simp] theorem State.compare_params (r m : Byte) : (s.compare r m).params = s.params := rfl
@[simp] theorem State.compare_result (r m : Byte) : (s.compare r m).result = s.result := rfl
@[simp] theorem State.compare_pixel (r m : Byte) : (s.compare r m).pixel = s.pixel := rfl
@[simp] theorem State.compare_freeCount (r m : Byte) : (s.compare r m).freeCount = s.freeCount := rfl

@[simp] theorem State.loadCycles_cpu (b e : Nat) : (s.loadCycles b e).cpu = { s.cpu with cycles := b + e + s.cpu.dmaStall, dmaStall := 0 } := rfl
@[simp] theorem State.loadCycles_ppu (b e : Nat) : (s.loadCycles b e).ppu = s.ppu := rfl
@[simp] theorem State.loadCycles_cart (b e : Nat) : (s.loadCycles b e).cart = s.cart := rfl
@[simp] theorem State.loadCycles_ram (b e : Nat) : (s.loadCycles b e).ram = s.ram := rfl
@[simp] theorem State.loadCycles_vram (b e : Nat) : (s.loadCycles b e).vram = s.vram := rfl
@[simp] theorem State.loadCycles_clock (b e : Nat) : (s.loadCycles b e).clock = s.clock := rfl
@[simp] theorem State.loadCycles_strobe (b e : Nat) : (s.loadCycles b e).strobe = s.strobe := rfl
@[simp] theorem State.loadCycles_shift1 (b e : Nat) : (s.loadCycles b e).shift1 = s.shift1 := rfl
@[simp] theorem State.loadCycles_shift2 (b e : Nat) : (s.loadCycles b e).shift2 = s.shift2 := rfl
@[simp] theorem State.loadCycles_buttons1 (b e : Nat) : (s.loadCycles b e).buttons1 = s.buttons1 := rfl
@[simp] theorem State.loadCycles_buttons2 (b e : Nat) : (s.loadCycles b e).buttons2 = s.buttons2 := rfl
@[simp] theorem State.loadCycles_params (b e : Nat) : (s.loadCycles b e).params = s.params := rfl
@[simp] theorem State.loadCycles_result (b e : Nat) : (s.loadCycles b e).result = s.result := rfl
@[simp] theorem State.loadCycles_pixel (b e : Nat) : (s.loadCycles b e).pixel = s.pixel := rfl
@[simp] theorem State.loadCycles_freeCount (b e : Nat) : (s.loadCycles b e).freeCount = s.freeCount := rfl

@[simp] theorem State.raiseUnknownOpcode_cpu : (s.raiseUnknownOpcode).cpu = { s.cpu with halted := true } := rfl
@[simp] theorem State.raiseUnknownOpcode_ppu : (s.raiseUnknownOpcode).ppu = s.ppu := rfl
@[simp] theorem State.raiseUnknownOpcode_cart : (s.raiseUnknownOpcode).cart = s.cart := rfl
@[simp] theorem State.raiseUnknownOpcode_ram : (s.raiseUnknownOpcode).ram = s.ram := rfl
@[simp] theorem State.raiseUnknownOpcode_vram : (s.raiseUnknownOpcode).vram = s.vram := rfl
@[simp] theorem State.raiseUnknownOpcode_clock : (s.raiseUnknownOpcode).clock = s.clock := rfl
@[simp] theorem State.raiseUnknownOpcode_strobe : (s.raiseUnknownOpcode).strobe = s.strobe := rfl
@[simp] theorem State.raiseUnknownOpcode_shift1 : (s.raiseUnknownOpcode).shift1 = s.shift1 := rfl
@[simp] theorem State.raiseUnknownOpcode_shift2 : (s.raiseUnknownOpcode).shift2 = s.shift2 := rfl
@[simp] theorem State.raiseUnknownOpcode_buttons1 : (s.raiseUnknownOpcode).buttons1 = s.buttons1 := rfl
@[simp] theorem State.raiseUnknownOpcode_buttons2 : (s.raiseUnknownOpcode).buttons2 = s.buttons2 := rfl
@[simp] theorem State.raiseUnknownOpcode_params : (s.raiseUnknownOpcode).params = s.params := rfl
@[simp] theorem State.raiseUnknownOpcode_result : (s.raiseUnknownOpcode).result = s.result := rfl
@[simp] theorem State.raiseUnknownOpcode_pixel : (s.raiseUnknownOpcode).pixel = s.pixel := rfl
@[simp] theorem State.raiseUnknownOpcode_freeCount : (s.raiseUnknownOpcode).freeCount = s.freeCount := rfl

@[simp] theorem State.refreshOpenBus_cpu (v : Byte) : (s.refreshOpenBus v).cpu = s.cpu := rfl
@[simp] theorem State.refreshOpenBus_ppu (v : Byte) : (s.refreshOpenBus v).ppu = { s.ppu with openBus := v, openBusAge := 0 } := rfl
@[simp] theorem State.refreshOpenBus_cart (v : Byte) : (s.refreshOpenBus v).cart = s.cart := rfl
@[simp] theorem State.refreshOpenBus_ram (v : Byte) : (s.refreshOpenBus v).ram = s.ram := rfl
@[simp] theorem State.refreshOpenBus_vram (v : Byte) : (s.refreshOpenBus v).vram = s.vram := rfl
@[simp] theorem State.refreshOpenBus_clock (v : Byte) : (s.refreshOpenBus v).clock = s.clock := rfl
@[simp] theorem State.refreshOpenBus_strobe (v : Byte) : (s.refreshOpenBus v).strobe = s.strobe := rfl
@[simp] theorem State.refreshOpenBus_shift1 (v : Byte) : (s.refreshOpenBus v).shift1 = s.shift1 := rfl
@[simp] theorem State.refreshOpenBus_shift2 (v : Byte) : (s.refreshOpenBus v).shift2 = s.shift2 := rfl
@[simp] theorem State.refreshOpenBus_buttons1 (v : Byte) : (s.refreshOpenBus v).buttons1 = s.buttons1 := rfl
@[simp] theorem State.refreshOpenBus_buttons2 (v : Byte) : (s.refreshOpenBus v).buttons2 = s.buttons2 := rfl
@[simp] theorem State.refreshOpenBus_params (v : Byte) : (s.refreshOpenBus v).params = s.params := rfl
@[simp] theorem State.refreshOpenBus_result (v : Byte) : (s.refreshOpenBus v).result = s.result := rfl
@[simp] theorem State.refreshOpenBus_pixel (v : Byte) : (s.refreshOpenBus v).pixel = s.pixel := rfl
@[simp] theorem State.refreshOpenBus_freeCount (v : Byte) : (s.refreshOpenBus v).freeCount = s.freeCount := rfl

@[simp] theorem State.clockCartridge_cpu : (s.clockCartridge).cpu = s.cpu := rfl
@[simp] theorem State.clockCartridge_ppu : (s.clockCartridge).ppu = s.ppu := rfl
@[simp] theorem State.clockCartridge_cart : (s.clockCartridge).cart = s.cart.map Cartridge.cpuClock := rfl
@[simp] theorem State.clockCartridge_ram : (s.clockCartridge).ram = s.ram := rfl
@[simp] theorem State.clockCartridge_vram : (s.clockCartridge).vram = s.vram := rfl
@[simp] theorem State.clockCartridge_clock : (s.clockCartridge).clock = s.clock := rfl
@[simp] theorem State.clockCartridge_strobe : (s.clockCartridge).strobe = s.strobe := rfl
@[simp] theorem State.clockCartridge_shift1 : (s.clockCartridge).shift1 = s.shift1 := rfl
@[simp] theorem State.clockCartridge_shift2 : (s.clockCartridge).shift2 = s.shift2 := rfl
@[simp] theorem State.clockCartridge_buttons1 : (s.clockCartridge).buttons1 = s.buttons1 := rfl
@[simp] theorem State.clockCartridge_buttons2 : (s.clockCartridge).buttons2 = s.buttons2 := rfl
@[simp] theorem State.clockCartridge_params : (s.clockCartridge).params = s.params := rfl
@[simp] theorem State.clockCartridge_result : (s.clockCartridge).result = s.result := rfl
@[simp] theorem State.clockCartridge_pixel : (s.clockCartridge).pixel = s.pixel := rfl
@[simp] theorem State.clockCartridge_freeCount : (s.clockCartridge).freeCount = s.freeCount := rfl

@[simp] theorem State.tick_cpu : (s.tick).cpu = s.cpu := rfl
@[simp] theorem State.tick_ppu : (s.tick).ppu = s.ppu := rfl
@[simp] theorem State.tick_cart : (s.tick).cart = s.cart := rfl
@[simp] theorem State.tick_ram : (s.tick).ram = s.ram := rfl
@[simp] theorem State.tick_vram : (s.tick).vram = s.vram := rfl
@[simp] theorem State.tick_clock : (s.tick).clock = s.clock + 1 := rfl
@[simp] theorem State.tick_strobe : (s.tick).strobe = s.strobe := rfl
@[simp] theorem State.tick_shift1 : (s.tick).shift1 = s.shift1 := rfl
@[simp] theorem State.tick_shift2 : (s.tick).shift2 = s.shift2 := rfl
@[simp] theorem State.tick_buttons1 : (s.tick).buttons1 = s.buttons1 := rfl
@[simp] theorem State.tick_buttons2 : (s.tick).buttons2 = s.buttons2 := rfl
@[simp] theorem State.tick_params : (s.tick).params = s.params := rfl
@[simp] theorem State.tick_result : (s.tick).result = s.result := rfl
@[simp] theorem State.tick_pixel : (s.tick).pixel = s.pixel := rfl
@[simp] theorem State.tick_freeCount : (s.tick).freeCount = s.freeCount := rfl

@[simp] theorem State.addWithCarry_eq (m : Byte) :
    s.addWithCarry m =
      ((s.setP (withV (withC s.cpu.p (decide (0xFF < addSum s.cpu.p s.cpu.a m)))
        (addOverflow s.cpu.a m (BitVec.ofNat 8 (addSum s.cpu.p s.cpu.a m))))).setA
          (BitVec.ofNat 8 (addSum s.cpu.p s.cpu.a m))).setNZ (BitVec.ofNat 8 (addSum s.cpu.p s.cpu.a m)) := rfl

@[simp] theorem State.countDown_cpu : s.countDown.cpu = { s.cpu with cycles := s.cpu.cycles - 1, cycleCount := s.cpu.cycleCount + 1 } := rfl
@[simp] theorem State.countDown_ppu : s.countDown.ppu = s.ppu := rfl
@[simp] theorem State.countDown_cart : s.countDown.cart = s.cart := rfl
@[simp] theorem State.countDown_ram : s.countDown.ram = s.ram := rfl
@[simp] theorem State.countDown_vram : s.countDown.vram = s.vram := rfl
@[simp] theorem State.countDown_clock : s.countDown.clock = s.clock := rfl
@[simp] theorem State.countDown_strobe : s.countDown.strobe = s.strobe := rfl
@[simp] theorem State.countDown_shift1 : s.countDown.shift1 = s.shift1 := rfl
@[simp] theorem State.countDown_shift2 : s.countDown.shift2 = s.shift2 := rfl
@[simp] theorem State.countDown_buttons1 : s.countDown.buttons1 = s.buttons1 := rfl
@[simp] theorem State.countDown_buttons2 : s.countDown.buttons2 = s.buttons2 := rfl
@[simp] theorem State.countDown_params : s.countDown.params = s.params := rfl
@[simp] theorem State.countDown_result : s.countDown.result = if s.cpu.cycles - 1 = 0 then .complete else .inProgress := rfl
@[simp] theorem State.countDown_pixel : s.countDown.pixel = s.pixel := rfl
@[simp] theorem State.countDown_freeCount : s.countDown.freeCount = s.freeCount := rfl

@[simp] theorem State.reportFailure_cpu : s.reportFailure.cpu = { s.cpu with cycleCount := s.cpu.cycleCount + 1 } := rfl
@[simp] theorem State.reportFailure_ppu : s.reportFailure.ppu = s.ppu := rfl
@[simp] theorem State.reportFailure_cart : s.reportFailure.cart = s.cart := rfl
@[simp] theorem State.reportFailure_ram : s.reportFailure.ram = s.ram := rfl
@[simp] theorem State.reportFailure_vram : s.reportFailure.vram = s.vram := rfl
@[simp] theorem State.reportFailure_clock : s.reportFailure.clock = s.clock := rfl
@[simp] theorem State.reportFailure_strobe : s.reportFailure.strobe = s.strobe := rfl
@[simp] theorem State.reportFailure_shift1 : s.reportFailure.shift1 = s.shift1 := rfl
@[simp] theorem State.reportFailure_shift2 : s.reportFailure.shift2 = s.shift2 := rfl
@[simp] theorem State.reportFailure_buttons1 : s.reportFailure.buttons1 = s.buttons1 := rfl
@[simp] theorem State.reportFailure_buttons2 : s.reportFailure.buttons2 = s.buttons2 := rfl
@[simp] theorem State.reportFailure_params : s.reportFailure.params = s.params := rfl
@[simp] theorem State.reportFailure_result : s.reportFailure.result = .failure := rfl
@[simp] theorem State.reportFailure_pixel : s.reportFailure.pixel = s.pixel := rfl
@[simp] theorem State.reportFailure_freeCount : s.reportFailure.freeCount = s.freeCount := rfl

end Sys2Proof.Machine
end

