-- ==== Sys2Proof/Laws/Bus.lean ====
section
/-! SUPPORT. What a bus access leaves alone, what it gives in work RAM, and the stack. -/

namespace Sys2Proof.Machine

/-! ## Snooping changes only MMC3 state -/

/-- What the snoop and the `cpu_clock` hook leave of a cartridge: everything but the mapper. -/
theorem Cartridge.snoop_eq (c : Cartridge) (n : Nat) (a : BitVec 14) :
    c.snoop n a = { c with mapper := (c.snoop n a).mapper } := by
  unfold Cartridge.snoop
  split <;> rfl

theorem Cartridge.cpuClock_eq (c : Cartridge) : c.cpuClock = { c with mapper := c.cpuClock.mapper } := by
  unfold Cartridge.cpuClock
  split
  · split <;> rfl
  · rfl

@[simp] theorem Cartridge.snoop_prgRom (c : Cartridge) (n : Nat) (a : BitVec 14) : (c.snoop n a).prgRom = c.prgRom := by
  rw [Cartridge.snoop_eq]
@[simp] theorem Cartridge.snoop_chr (c : Cartridge) (n : Nat) (a : BitVec 14) : (c.snoop n a).chr = c.chr := by
  rw [Cartridge.snoop_eq]
@[simp] theorem Cartridge.snoop_prgRam (c : Cartridge) (n : Nat) (a : BitVec 14) : (c.snoop n a).prgRam = c.prgRam := by
  rw [Cartridge.snoop_eq]
@[simp] theorem Cartridge.snoop_prgBanks (c : Cartridge) (n : Nat) (a : BitVec 14) :
    (c.snoop n a).prgBanks = c.prgBanks := by rw [Cartridge.snoop_eq]
@[simp] theorem Cartridge.snoop_chrBanks (c : Cartridge) (n : Nat) (a : BitVec 14) :
    (c.snoop n a).chrBanks = c.chrBanks := by rw [Cartridge.snoop_eq]
@[simp] theorem Cartridge.snoop_prgRamBanks (c : Cartridge) (n : Nat) (a : BitVec 14) :
    (c.snoop n a).prgRamBanks = c.prgRamBanks := by rw [Cartridge.snoop_eq]
@[simp] theorem Cartridge.snoop_mirroring (c : Cartridge) (n : Nat) (a : BitVec 14) :
    (c.snoop n a).mirroring = c.mirroring := by rw [Cartridge.snoop_eq]

@[simp] theorem Mmc3.clockIrq_regs (m : Mmc3) : m.clockIrq.regs = m.regs := rfl
@[simp] theorem Mmc3.clockIrq_chrMode (m : Mmc3) : m.clockIrq.chrMode = m.chrMode := rfl
@[simp] theorem Mmc3.clockIrq_prgMode (m : Mmc3) : m.clockIrq.prgMode = m.prgMode := rfl
@[simp] theorem Mmc3.clockIrq_mirroring (m : Mmc3) : m.clockIrq.mirroring = m.mirroring := rfl

@[simp] theorem Mmc3.snoop_regs (m : Mmc3) (n : Nat) (a : BitVec 14) : (m.snoop n a).regs = m.regs := by
  unfold Mmc3.snoop; dsimp only; split <;> rfl
@[simp] theorem Mmc3.snoop_chrMode (m : Mmc3) (n : Nat) (a : BitVec 14) : (m.snoop n a).chrMode = m.chrMode := by
  unfold Mmc3.snoop; dsimp only; split <;> rfl
@[simp] theorem Mmc3.snoop_prgMode (m : Mmc3) (n : Nat) (a : BitVec 14) : (m.snoop n a).prgMode = m.prgMode := by
  unfold Mmc3.snoop; dsimp only; split <;> rfl
@[simp] theorem Mmc3.snoop_mirroring (m : Mmc3) (n : Nat) (a : BitVec 14) : (m.snoop n a).mirroring = m.mirroring := by
  unfold Mmc3.snoop; dsimp only; split <;> rfl

/-- The snoop does not move a bank: every access index stays as it was. -/
@[simp] theorem Cartridge.snoop_chrIndex (c : Cartridge) (n : Nat) (a b : BitVec 14) :
    (c.snoop n a).chrIndex b = c.chrIndex b := by
  unfold Cartridge.snoop
  split
  · next m hm => simp [Cartridge.chrIndex, hm, Cartridge.chrSize, Mmc3.chrBank]
  · rfl

@[simp] theorem Cartridge.snoop_prgIndex (c : Cartridge) (n : Nat) (a : BitVec 14) (b : Word) :
    (c.snoop n a).prgIndex b = c.prgIndex b := by
  unfold Cartridge.snoop
  split
  · next m hm => simp [Cartridge.prgIndex, hm, Cartridge.prgSize, Mmc3.prgBank]
  · rfl

@[simp] theorem Cartridge.snoop_vramIndex (c : Cartridge) (n : Nat) (a b : BitVec 14) :
    (c.snoop n a).vramIndex b = c.vramIndex b := by
  unfold Cartridge.snoop
  split
  · next m hm => simp [Cartridge.vramIndex, hm, Cartridge.currentMirroring]
  · rfl

/-! ## Reads leave everything but the PPU's read-sensitive registers, the snooped mapper and the gamepads -/

/-- Everything a PPU-side read can change is the mapper, by the snoop. -/
theorem afterPpuRead_eq (s : State) (a : BitVec 14) :
    s.afterPpuRead a = { s with cart := (s.afterPpuRead a).cart } := by
  unfold State.afterPpuRead
  split <;> rfl

/-- Everything a PPU register read can change (R1030, R1026): the PPU record and, by the snoop, the mapper. -/
theorem afterRegRead_eq (s : State) (r : BitVec 3) :
    s.afterRegRead r = { s with ppu := (s.afterRegRead r).ppu, cart := (s.afterRegRead r).cart } := by
  unfold State.afterRegRead
  split
  · rfl
  · rw [afterPpuRead_eq]
  · rfl

/-- Everything a CPU read can change: the PPU record, the mapper, and the two shift indexes. -/
theorem afterRead_eq (s : State) (a : Word) :
    s.afterRead a =
      { s with
        ppu := (s.afterRead a).ppu
        cart := (s.afterRead a).cart
        shift1 := (s.afterRead a).shift1
        shift2 := (s.afterRead a).shift2 } := by
  unfold State.afterRead
  split
  · rfl
  · repeat' split
    · rfl
    · rw [afterRegRead_eq]
    · rfl
    · rfl
    · rfl

@[simp] theorem afterRead_cpu (s : State) (a : Word) : (s.afterRead a).cpu = s.cpu := by rw [afterRead_eq]
@[simp] theorem afterRead_ram (s : State) (a : Word) : (s.afterRead a).ram = s.ram := by rw [afterRead_eq]
@[simp] theorem afterRead_vram (s : State) (a : Word) : (s.afterRead a).vram = s.vram := by rw [afterRead_eq]
@[simp] theorem afterRead_clock (s : State) (a : Word) : (s.afterRead a).clock = s.clock := by rw [afterRead_eq]
@[simp] theorem afterRead_strobe (s : State) (a : Word) : (s.afterRead a).strobe = s.strobe := by rw [afterRead_eq]
@[simp] theorem afterRead_buttons1 (s : State) (a : Word) : (s.afterRead a).buttons1 = s.buttons1 := by
  rw [afterRead_eq]
@[simp] theorem afterRead_buttons2 (s : State) (a : Word) : (s.afterRead a).buttons2 = s.buttons2 := by
  rw [afterRead_eq]
@[simp] theorem afterRead_params (s : State) (a : Word) : (s.afterRead a).params = s.params := by rw [afterRead_eq]
@[simp] theorem afterRead_result (s : State) (a : Word) : (s.afterRead a).result = s.result := by rw [afterRead_eq]
@[simp] theorem afterRead_pixel (s : State) (a : Word) : (s.afterRead a).pixel = s.pixel := by rw [afterRead_eq]
@[simp] theorem afterRead_freeCount (s : State) (a : Word) : (s.afterRead a).freeCount = s.freeCount := by
  rw [afterRead_eq]

/-- What a CPU read does to the cartridge: nothing, or one snoop. -/
theorem afterRead_cart (s : State) (a : Word) :
    (s.afterRead a).cart = s.cart ∨
      ∃ b, (s.afterRead a).cart = s.cart.map (fun c => c.snoop s.params.mmc3A12M2Min b) := by
  unfold State.afterRead
  split
  · exact .inl rfl
  · split
    · exact .inl rfl
    · split
      · unfold State.afterRegRead
        split
        · exact .inl rfl
        · unfold State.afterPpuRead
          split
          · exact .inl rfl
          · exact .inr ⟨_, rfl⟩
        · exact .inl rfl
      · repeat' split
        all_goals exact .inl rfl

/-- What a CPU read does to the PPU: it may clear VBL and w and set the suppression, or fill the buffer and step v. -/
theorem afterRead_ppu (s : State) (a : Word) :
    (s.afterRead a).ppu = s.ppu ∨ (s.afterRead a).ppu = s.ppu.afterStatusRead ∨
      ∃ b, (s.afterRead a).ppu = { s.ppu with readBuffer := b }.incrementV := by
  unfold State.afterRead
  split
  · exact .inl rfl
  · split
    · exact .inl rfl
    · split
      · unfold State.afterRegRead
        split
        · exact .inr (.inl rfl)
        · refine .inr (.inr ⟨s.ppuRead s.ppu.dataAddr, ?_⟩)
          rw [afterPpuRead_eq]
        · exact .inl rfl
      · repeat' split
        all_goals exact .inl rfl

/-! ## Work RAM -/

theorem cartRead_of_lt (s : State) (a : Word) (h : a.toNat < 0x6000) : s.cartRead a = none := by
  unfold State.cartRead
  cases s.cart with
  | none => rfl
  | some c => simp only [Option.bind_some, Cartridge.cpuRead, if_neg (show ¬ 0x8000 ≤ a.toNat by omega), if_neg (show ¬ 0x6000 ≤ a.toNat by omega)]

theorem cartWrite_of_lt (s : State) (a : Word) (v : Byte) (h : a.toNat < 0x6000) :
    s.cart.bind (fun c => c.cpuWrite a v) = none := by
  cases s.cart with
  | none => rfl
  | some c => simp only [Option.bind_some, Cartridge.cpuWrite, if_neg (show ¬ 0x8000 ≤ a.toNat by omega), if_neg (show ¬ 0x6000 ≤ a.toNat by omega)]

/-- A read of work RAM gives the byte of its 2048-byte mirror (R1310). -/
theorem busRead_ram (s : State) (a : Word) (h : a.toNat ≤ 0x1FFF) : s.busRead a = s.ram.read (a.toNat % 0x800) := by
  simp only [State.busRead, cartRead_of_lt s a (by omega), if_pos h]

/-- A read of work RAM changes nothing. -/
theorem afterRead_of_ram (s : State) (a : Word) (h : a.toNat ≤ 0x1FFF) : s.afterRead a = s := by
  simp only [State.afterRead, cartRead_of_lt s a (by omega), if_pos h]

/-- A write to work RAM changes one byte of it and nothing else (R1311). -/
theorem busWrite_ram (s : State) (a : Word) (v : Byte) (h : a.toNat ≤ 0x1FFF) :
    s.busWrite a v = { s with ram := s.ram.write (a.toNat % 0x800) v } := by
  simp only [State.busWrite, cartWrite_of_lt s a v (by omega), if_pos h]

/-- A write whose result is false is ignored (R1311). -/
theorem busWrite_of_result_false {s : State} {a : Word} {v : Byte} (h : s.busWriteResult a v = false) :
    s.busWrite a v = s := by
  simp only [State.busWriteResult, Bool.or_eq_false_iff, Option.isSome_eq_false_iff, Option.isNone_iff_eq_none,
    decide_eq_false_iff_not, beq_eq_false_iff_ne] at h
  obtain ⟨⟨⟨h1, h2⟩, h3⟩, h4⟩ := h
  simp only [State.busWrite, h1, if_neg (show ¬ a.toNat ≤ 0x1FFF by omega), if_neg h2, if_neg h3, if_neg h4]

/-! ## The cartridge's ROM space -/

/-- A read from $8000 up depends on the cartridge alone (R1206). -/
theorem busRead_high {s t : State} (a : Word) (ha : 0x8000 ≤ a.toNat) (h : t.cart = s.cart) : t.busRead a = s.busRead a := by
  have h3 : a ≠ 0x4016 := fun e => absurd ha (by rw [e]; decide)
  have h4 : a ≠ 0x4017 := fun e => absurd ha (by rw [e]; decide)
  unfold State.busRead State.cartRead
  rw [h]
  cases s.cart with
  | none =>
    simp only [Option.bind_none, if_neg (show ¬ a.toNat ≤ 0x1FFF by omega), if_neg (show ¬ a.toNat ≤ 0x3FFF by omega),
      if_neg h3, if_neg h4]
  | some c => simp only [Option.bind_some, Cartridge.cpuRead, if_pos ha]

/-- A read from $8000 up changes nothing. -/
theorem afterRead_high (s : State) (a : Word) (ha : 0x8000 ≤ a.toNat) : s.afterRead a = s := by
  have h3 : a ≠ 0x4016 := fun e => absurd ha (by rw [e]; decide)
  have h4 : a ≠ 0x4017 := fun e => absurd ha (by rw [e]; decide)
  unfold State.afterRead State.cartRead
  cases s.cart with
  | none =>
    simp only [Option.bind_none, if_neg (show ¬ a.toNat ≤ 0x1FFF by omega), if_neg (show ¬ a.toNat ≤ 0x3FFF by omega),
      if_neg h3, if_neg h4]
  | some c => simp only [Option.bind_some, Cartridge.cpuRead, if_pos ha]

/-! ## Words -/

theorem toNat_wordOf (lo hi : Byte) : (wordOf lo hi).toNat = 256 * hi.toNat + lo.toNat := by
  have := lo.isLt
  show (hi ++ lo : BitVec (8 + 8)).toNat = _
  rw [BitVec.toNat_append, Nat.shiftLeft_eq, Nat.mul_comm, ← Nat.two_pow_add_eq_or_of_lt (by omega)]

theorem toNat_loByte (w : Word) : (loByte w).toNat = w.toNat % 256 := by
  simp [loByte, BitVec.extractLsb'_toNat]

theorem toNat_hiByte (w : Word) : (hiByte w).toNat = w.toNat / 256 := by
  have := w.isLt
  simp [hiByte, BitVec.extractLsb'_toNat, Nat.shiftRight_eq_div_pow]
  omega

@[simp] theorem loByte_wordOf (lo hi : Byte) : loByte (wordOf lo hi) = lo := by
  have := lo.isLt
  apply BitVec.eq_of_toNat_eq
  rw [toNat_loByte, toNat_wordOf]
  omega

@[simp] theorem hiByte_wordOf (lo hi : Byte) : hiByte (wordOf lo hi) = hi := by
  have := lo.isLt
  apply BitVec.eq_of_toNat_eq
  rw [toNat_hiByte, toNat_wordOf]
  omega

@[simp] theorem wordOf_lo_hi (w : Word) : wordOf (loByte w) (hiByte w) = w := by
  apply BitVec.eq_of_toNat_eq
  rw [toNat_wordOf, toNat_loByte, toNat_hiByte]
  omega

theorem toNat_stackAddr (sp : Byte) : (stackAddr sp).toNat = 256 + sp.toNat := by
  rw [stackAddr, toNat_wordOf]; rfl

/-! ## The stack -/

/-- `Push` in full (R15, R101): one byte of page one, and SP. -/
theorem push_eq (s : State) (v : Byte) :
    s.push v = { s with ram := s.ram.write (256 + s.cpu.sp.toNat) v, cpu.sp := s.cpu.sp - 1 } := by
  have h := s.cpu.sp.isLt
  have ha := toNat_stackAddr s.cpu.sp
  simp only [State.push]
  rw [busWrite_ram s _ v (by omega), ha, Nat.mod_eq_of_lt (by omega)]
  rfl

/-- What `Pull` returns (R15). -/
theorem pulled_eq (s : State) : s.pulled = s.ram.read (256 + (s.cpu.sp + 1).toNat) := by
  have h := (s.cpu.sp + 1).isLt
  have ha := toNat_stackAddr (s.cpu.sp + 1)
  rw [State.pulled, busRead_ram s _ (by omega), ha, Nat.mod_eq_of_lt (by omega)]

/-- What `Pull` leaves (R15): only SP changes. -/
theorem afterPull_eq (s : State) : s.afterPull = s.setSp (s.cpu.sp + 1) := by
  have h := (s.cpu.sp + 1).isLt
  have ha := toNat_stackAddr (s.cpu.sp + 1)
  rw [State.afterPull, afterRead_of_ram _ _ (by omega)]

theorem pushPc_eq (s : State) (a : Word) :
    s.pushPc a =
      { s with
        ram := (s.ram.write (256 + s.cpu.sp.toNat) (hiByte a)).write (256 + (s.cpu.sp - 1).toNat) (loByte a)
        cpu.sp := s.cpu.sp - 1 - 1 } := by
  rw [State.pushPc, push_eq, push_eq]

theorem pulledPc_eq (s : State) :
    s.pulledPc =
      wordOf (s.ram.read (256 + (s.cpu.sp + 1).toNat)) (s.ram.read (256 + (s.cpu.sp + 1 + 1).toNat)) := by
  rw [State.pulledPc, afterPull_eq, pulled_eq, pulled_eq]
  rfl

theorem afterPullPc_eq (s : State) : s.afterPullPc = s.setSp (s.cpu.sp + 1 + 1) := by
  rw [State.afterPullPc, afterPull_eq, afterPull_eq]
  rfl

end Sys2Proof.Machine
end

