-- ==== Sys2Proof/Laws/Flags.lean ====
section
/-! SUPPORT. The flags bit by bit: what each flag update writes and what it leaves. -/

namespace Sys2Proof.Machine

/-- One bit of P is written, every other bit kept. -/
theorem getLsbD_setBit (p : Byte) (i : Nat) (b : Bool) (k : Nat) (hi : i < 8) :
    (setBit p i b).getLsbD k = if k = i then b else p.getLsbD k := by
  by_cases hk : k < 8
  · cases b <;> by_cases h : k = i <;>
      simp [setBit, hk, h, hi] <;> omega
  · rw [BitVec.getLsbD_of_ge _ _ (by omega), BitVec.getLsbD_of_ge _ _ (by omega), if_neg (by omega)]

theorem getLsbD_withC (p : Byte) (b : Bool) (k : Nat) : (withC p b).getLsbD k = if k = 0 then b else p.getLsbD k :=
  getLsbD_setBit p 0 b k (by decide)

theorem getLsbD_withZ (p : Byte) (b : Bool) (k : Nat) : (withZ p b).getLsbD k = if k = 1 then b else p.getLsbD k :=
  getLsbD_setBit p 1 b k (by decide)

theorem getLsbD_withI (p : Byte) (b : Bool) (k : Nat) : (withI p b).getLsbD k = if k = 2 then b else p.getLsbD k :=
  getLsbD_setBit p 2 b k (by decide)

theorem getLsbD_withD (p : Byte) (b : Bool) (k : Nat) : (withD p b).getLsbD k = if k = 3 then b else p.getLsbD k :=
  getLsbD_setBit p 3 b k (by decide)

theorem getLsbD_withV (p : Byte) (b : Bool) (k : Nat) : (withV p b).getLsbD k = if k = 6 then b else p.getLsbD k :=
  getLsbD_setBit p 6 b k (by decide)

theorem getLsbD_withN (p : Byte) (b : Bool) (k : Nat) : (withN p b).getLsbD k = if k = 7 then b else p.getLsbD k :=
  getLsbD_setBit p 7 b k (by decide)

/-- `SetNZ` bit by bit (R16). -/
theorem getLsbD_nzOf (p v : Byte) (k : Nat) :
    (nzOf p v).getLsbD k = if k = 7 then v.getLsbD 7 else if k = 1 then v == 0 else p.getLsbD k := by
  rw [nzOf, getLsbD_withN, getLsbD_withZ]

/-- `Compare` bit by bit (R602). -/
theorem getLsbD_compareFlags (p r m : Byte) (k : Nat) :
    (compareFlags p r m).getLsbD k =
      if k = 7 then (r - m).getLsbD 7 else if k = 1 then r == m
      else if k = 0 then decide (m.toNat ≤ r.toNat) else p.getLsbD k := by
  rw [compareFlags, getLsbD_withN, getLsbD_withZ, getLsbD_withC]

/-- BIT's flags bit by bit (R623). -/
theorem getLsbD_bitFlags (p a m : Byte) (k : Nat) :
    (bitFlags p a m).getLsbD k =
      if k = 6 then m.getLsbD 6 else if k = 7 then m.getLsbD 7 else if k = 1 then a &&& m == 0
      else p.getLsbD k := by
  rw [bitFlags, getLsbD_withV, getLsbD_withN, getLsbD_withZ]

/-- The carry of a read-modify-write bit by bit (R700). -/
theorem getLsbD_carryOut (p : Byte) (r : ShiftResult) (k : Nat) :
    (carryOut p r).getLsbD k = if k = 0 then r.carry.getD (p.getLsbD 0) else p.getLsbD k := by
  unfold carryOut
  cases r.carry with
  | some c => exact getLsbD_withC p c k
  | none => by_cases h : k = 0 <;> simp [h]

theorem pushedByInstruction_bits (p : Byte) (k : Nat) :
    (pushedByInstruction p).getLsbD k = if k = 4 ∨ k = 5 then true else p.getLsbD k := by
  by_cases hk : k < 8
  · have : ∀ k : Fin 8, ∀ b : Bool, ((0x30 : Byte).getLsbD k = decide (k.val = 4 ∨ k.val = 5)) := by decide
    have h30 := this ⟨k, hk⟩ true
    simp only at h30
    simp only [pushedByInstruction, BitVec.getLsbD_or, h30]
    by_cases h : k = 4 ∨ k = 5 <;> simp [h]
  · rw [BitVec.getLsbD_of_ge _ _ (by omega), BitVec.getLsbD_of_ge _ _ (by omega), if_neg (by omega)]

theorem pushedByInterrupt_bits (p : Byte) (k : Nat) :
    (pushedByInterrupt p).getLsbD k = if k = 5 then true else if k = 4 then false else p.getLsbD k := by
  by_cases hk : k < 8
  · have h1 : ∀ k : Fin 8, ((~~~0x10 : Byte).getLsbD k = !decide (k.val = 4)) := by decide
    have h2 : ∀ k : Fin 8, ((0x20 : Byte).getLsbD k = decide (k.val = 5)) := by decide
    have a := h1 ⟨k, hk⟩
    have b := h2 ⟨k, hk⟩
    simp only at a b
    simp only [pushedByInterrupt, BitVec.getLsbD_or, BitVec.getLsbD_and, a, b]
    by_cases h : k = 4 <;> by_cases h' : k = 5 <;> simp [h, h']
  · rw [BitVec.getLsbD_of_ge _ _ (by omega), BitVec.getLsbD_of_ge _ _ (by omega), if_neg (by omega),
      if_neg (by omega)]

theorem pulledStatus_bits (v : Byte) (k : Nat) :
    (pulledStatus v).getLsbD k = if k = 5 then true else if k = 4 then false else v.getLsbD k := by
  by_cases hk : k < 8
  · have h1 : ∀ k : Fin 8, ((0xCF : Byte).getLsbD k = !decide (k.val = 4 ∨ k.val = 5)) := by decide
    have h2 : ∀ k : Fin 8, ((0x20 : Byte).getLsbD k = decide (k.val = 5)) := by decide
    have a := h1 ⟨k, hk⟩
    have b := h2 ⟨k, hk⟩
    simp only at a b
    simp only [pulledStatus, BitVec.getLsbD_or, BitVec.getLsbD_and, a, b]
    by_cases h : k = 4 <;> by_cases h' : k = 5 <;> simp [h, h']
  · rw [BitVec.getLsbD_of_ge _ _ (by omega), BitVec.getLsbD_of_ge _ _ (by omega), if_neg (by omega),
      if_neg (by omega)]

/-- P of an addition bit by bit (R601). -/
theorem addWithCarry_p_bits (s : State) (m : Byte) (k : Nat) :
    (s.addWithCarry m).cpu.p.getLsbD k =
      if k = 7 then (BitVec.ofNat 8 (addSum s.cpu.p s.cpu.a m)).getLsbD 7
      else if k = 1 then (BitVec.ofNat 8 (addSum s.cpu.p s.cpu.a m)) == 0
      else if k = 6 then addOverflow s.cpu.a m (BitVec.ofNat 8 (addSum s.cpu.p s.cpu.a m))
      else if k = 0 then decide (0xFF < addSum s.cpu.p s.cpu.a m)
      else s.cpu.p.getLsbD k := by
  simp only [State.addWithCarry_eq, State.setNZ_cpu, State.setA_cpu, State.setP_cpu, getLsbD_nzOf, getLsbD_withV,
    getLsbD_withC]

/-- The stored form of P: B = 0, U = 1 (R103). Every flag update that keeps bits 4 and 5 keeps it. -/
theorem Cpu.Inv.of_bits {c : Cpu} {p : Byte} (h : c.Inv) (h4 : p.getLsbD 4 = c.p.getLsbD 4)
    (h5 : p.getLsbD 5 = c.p.getLsbD 5) : flagB p = false ∧ flagU p = true :=
  ⟨h4.trans h.1, h5.trans h.2⟩

end Sys2Proof.Machine
end

