-- ==== Sys2Proof/Laws/Stores.lean ====
section
/-! SUPPORT. What a bus access leaves of the memories and of the CPU: a read changes no memory byte, a write only the
cells of `State.storesTo`. -/

namespace Sys2Proof.Machine

/-! ## Reads -/

theorem byteAt_congr {s t : State} (hr : t.ram = s.ram) (hv : t.vram = s.vram) (ho : t.ppu.oam = s.ppu.oam)
    (hs : t.ppu.secOam = s.ppu.secOam) (hp : t.ppu.palette = s.ppu.palette)
    (hc : t.cart.map (fun c => (c.prgRom, c.prgRam, c.chr)) = s.cart.map (fun c => (c.prgRom, c.prgRam, c.chr)))
    (sp : Space) (i : Nat) : t.byteAt sp i = s.byteAt sp i := by
  cases sp <;> simp only [State.byteAt, hr, hv, ho, hs, hp]
  all_goals
    cases ht : t.cart <;> cases hs' : s.cart <;> simp_all

/-- A CPU read changes no byte of any memory. -/
theorem afterRead_byteAt (s : State) (a : Word) (sp : Space) (i : Nat) :
    (s.afterRead a).byteAt sp i = s.byteAt sp i := by
  have hc := afterRead_cart s a
  have hp := afterRead_ppu s a
  apply byteAt_congr
  · simp
  · simp
  · rcases hp with h | h | ⟨b, h⟩ <;> rw [h] <;> rfl
  · rcases hp with h | h | ⟨b, h⟩ <;> rw [h] <;> rfl
  · rcases hp with h | h | ⟨b, h⟩ <;> rw [h] <;> rfl
  · rcases hc with h | ⟨b, h⟩ <;> rw [h]
    cases s.cart <;> simp

/-- A PPU bus access changes no byte by itself. -/
theorem snoopPpuBus_byteAt (s : State) (a : BitVec 14) (sp : Space) (i : Nat) :
    (s.snoopPpuBus a).byteAt sp i = s.byteAt sp i := by
  apply byteAt_congr <;> try rfl
  cases h : s.cart <;> simp [State.snoopPpuBus, h]

/-! ## Writes at PPU addresses -/

/-- Everything a write at a PPU address can change. -/
theorem ppuWrite_eq (s : State) (a : BitVec 14) (v : Byte) :
    s.ppuWrite a v =
      { s with
        ppu.palette := (s.ppuWrite a v).ppu.palette
        cart := (s.ppuWrite a v).cart
        vram := (s.ppuWrite a v).vram } := by
  unfold State.ppuWrite
  split
  · rfl
  · unfold State.ppuBusWrite
    split
    · rfl
    · split <;> rfl

theorem ppuBusWrite_byteAt (s : State) (a : BitVec 14) (v : Byte) (sp : Space) (i : Nat)
    (ha : a.toNat < 0x3F00) (h : s.ppuStoresTo a sp i = false) :
    (s.ppuBusWrite a v).byteAt sp i = s.byteAt sp i := by
  unfold State.ppuBusWrite
  cases hc : s.cart with
  | none =>
    have hv : s.vramTarget a = none := by unfold State.vramTarget; split <;> simp [hc]
    simp [hv]
  | some c =>
    simp only [State.ppuStoresTo, if_neg (show ¬ 0x3F00 ≤ a.toNat by omega), hc] at h
    by_cases hlo : a.toNat < 0x2000
    · simp only [if_pos hlo] at h
      simp only [Option.bind_some, Cartridge.ppuWrite, if_pos hlo]
      by_cases hr : c.chrIsRam = true
      · rw [hr, Bool.and_true] at h
        rw [if_pos hr]
        cases sp <;> simp only [State.byteAt, hc, Option.bind_some]
        simp only [beq_self_eq_true, Bool.true_and, beq_eq_false_iff_ne] at h
        exact Memory.read_write_ne _ _ (Ne.symm h)
      · rw [if_neg hr]
        cases sp <;> simp only [State.byteAt, hc, Option.bind_some]
    · simp only [if_neg hlo] at h
      have hv : s.vramTarget a = some (c.vramIndex a) := by
        unfold State.vramTarget
        rw [if_pos (by simp [vramEnabled]; omega), hc]; rfl
      simp only [Option.bind_some, Cartridge.ppuWrite, if_neg hlo, hv]
      cases sp <;> simp only [State.byteAt, hc]
      simp only [beq_self_eq_true, Bool.true_and, beq_eq_false_iff_ne] at h
      exact Memory.read_write_ne _ _ (Ne.symm h)

theorem ppuWrite_byteAt (s : State) (a : BitVec 14) (v : Byte) (sp : Space) (i : Nat)
    (h : s.ppuStoresTo a sp i = false) : (s.ppuWrite a v).byteAt sp i = s.byteAt sp i := by
  unfold State.ppuWrite
  by_cases hp : 0x3F00 ≤ a.toNat
  · rw [if_pos (by simpa [isPaletteAddr] using hp)]
    simp only [State.ppuStoresTo, if_pos hp] at h
    cases sp <;> simp only [State.byteAt]
    simp only [beq_self_eq_true, Bool.true_and, beq_eq_false_iff_ne] at h
    rw [Vector.getElem?_set, if_neg (Ne.symm h)]
  · rw [if_neg (by simpa [isPaletteAddr] using hp), ppuBusWrite_byteAt _ _ _ _ _ (by omega)]
    · exact snoopPpuBus_byteAt s a sp i
    · rw [← h]
      unfold State.ppuStoresTo State.snoopPpuBus
      cases s.cart <;> simp [Cartridge.chrIsRam]

/-! ## Register writes -/

theorem signalNmi_eq (s : State) : s.signalNmi = { s with cpu.nmiPending := s.signalNmi.cpu.nmiPending } := by
  unfold State.signalNmi
  split <;> rfl

/-- Everything a PPU register write can change. -/
theorem regWrite_eq (s : State) (r : BitVec 3) (v : Byte) :
    s.regWrite r v =
      { s with
        cpu.nmiPending := (s.regWrite r v).cpu.nmiPending
        ppu := (s.regWrite r v).ppu
        cart := (s.regWrite r v).cart
        vram := (s.regWrite r v).vram } := by
  unfold State.regWrite
  dsimp only
  split
  · unfold State.writeCtrl
    dsimp only
    split
    · rw [signalNmi_eq]; rfl
    · rfl
  all_goals try rfl
  · unfold State.writePpuData
    dsimp only
    rw [ppuWrite_eq]
    rfl

theorem writeOamData_oam (p : Ppu) (v : Byte) (i : Nat) (h : (!p.rendering && i == p.oamAddr.toNat) = false) :
    (p.writeOamData v).oam.read i = p.oam.read i := by
  unfold Ppu.writeOamData
  split
  · rfl
  · next hr =>
    simp only [Bool.not_eq_true] at hr
    simp only [hr, Bool.not_false, Bool.true_and, beq_eq_false_iff_ne] at h
    exact Memory.read_write_ne _ _ (Ne.symm h)

theorem toNat_ppuRegOf (a : Word) : (ppuRegOf a).toNat = a.toNat % 8 := by simp [ppuRegOf, BitVec.toNat_setWidth]

theorem regWrite_byteAt (s : State) (r : BitVec 3) (v : Byte) (sp : Space) (i : Nat)
    (h4 : r.toNat = 4 → (sp == .oam && !s.ppu.rendering && i == s.ppu.oamAddr.toNat) = false)
    (h7 : r.toNat = 7 → s.ppuStoresTo s.ppu.dataAddr sp i = false) :
    (s.regWrite r v).byteAt sp i = s.byteAt sp i := by
  unfold State.regWrite
  dsimp only
  split
  · unfold State.writeCtrl
    dsimp only
    split
    · rw [signalNmi_eq]
      exact byteAt_congr rfl rfl rfl rfl rfl rfl sp i
    · exact byteAt_congr rfl rfl rfl rfl rfl rfl sp i
  · exact byteAt_congr rfl rfl rfl rfl rfl rfl sp i
  · exact byteAt_congr rfl rfl rfl rfl rfl rfl sp i
  · next h =>
    have h4 := h4 h
    cases sp <;> simp only [State.byteAt, State.refreshOpenBus_ppu, State.refreshOpenBus_ram,
      State.refreshOpenBus_vram, State.refreshOpenBus_cart]
    · simp only [beq_self_eq_true, Bool.true_and] at h4
      exact writeOamData_oam _ v i h4
    · unfold Ppu.writeOamData; split <;> rfl
    · have : (Ppu.writeOamData { s.ppu with openBus := v, openBusAge := 0 } v).palette = s.ppu.palette := by
        unfold Ppu.writeOamData; split <;> rfl
      rw [this]
  · have h1 : ∀ p : Ppu, (p.writeScroll v).oam = p.oam ∧ (p.writeScroll v).secOam = p.secOam ∧
        (p.writeScroll v).palette = p.palette := by
      intro p; unfold Ppu.writeScroll; split <;> exact ⟨rfl, rfl, rfl⟩
    apply byteAt_congr
    · rfl
    · rfl
    · exact (h1 _).1
    · exact (h1 _).2.1
    · exact (h1 _).2.2
    · rfl
  · have h1 : ∀ p : Ppu, (p.writeAddr v).oam = p.oam ∧ (p.writeAddr v).secOam = p.secOam ∧
        (p.writeAddr v).palette = p.palette := by
      intro p; unfold Ppu.writeAddr; split <;> exact ⟨rfl, rfl, rfl⟩
    apply byteAt_congr
    · rfl
    · rfl
    · exact (h1 _).1
    · exact (h1 _).2.1
    · exact (h1 _).2.2
    · rfl
  · next h =>
    unfold State.writePpuData
    refine Eq.trans (b := ((s.refreshOpenBus v).ppuWrite (s.refreshOpenBus v).ppu.dataAddr v).byteAt sp i)
      (byteAt_congr rfl rfl rfl rfl rfl rfl sp i) ?_
    exact ppuWrite_byteAt (s.refreshOpenBus v) _ v sp i (h7 h)
  · exact byteAt_congr rfl rfl rfl rfl rfl rfl sp i

/-! ## OAM DMA -/

theorem dmaByte_eq (s : State) (page : Byte) (i : Nat) :
    s.dmaByte page i =
      { s with
        ppu := (s.dmaByte page i).ppu
        cart := (s.dmaByte page i).cart
        shift1 := (s.dmaByte page i).shift1
        shift2 := (s.dmaByte page i).shift2 } := by
  unfold State.dmaByte
  dsimp only
  rw [afterRead_eq]

/-- The copy itself changes only what its reads change, and OAM. -/
theorem dmaBytes_eq (s : State) (page : Byte) (n : Nat) :
    s.dmaBytes page n =
      { s with
        ppu := (s.dmaBytes page n).ppu
        cart := (s.dmaBytes page n).cart
        shift1 := (s.dmaBytes page n).shift1
        shift2 := (s.dmaBytes page n).shift2 } := by
  induction n with
  | zero => rfl
  | succ n ih => rw [State.dmaBytes, dmaByte_eq, ih]

theorem dmaByte_byteAt (s : State) (page : Byte) (n : Nat) (sp : Space) (i : Nat)
    (h : (sp == .oam && decide (i < 256)) = false) : (s.dmaByte page n).byteAt sp i = s.byteAt sp i := by
  rw [← afterRead_byteAt s (page ++ BitVec.ofNat 8 n) sp i]
  unfold State.dmaByte
  cases sp <;> try rfl
  simp only [beq_self_eq_true, Bool.true_and, decide_eq_false_iff_not] at h
  refine Memory.read_write_ne _ _ ?_
  have := ((s.afterRead (page ++ BitVec.ofNat 8 n)).ppu.oamAddr + BitVec.ofNat 8 n).isLt
  omega

theorem dmaBytes_byteAt (s : State) (page : Byte) (n : Nat) (sp : Space) (i : Nat)
    (h : (sp == .oam && decide (i < 256)) = false) : (s.dmaBytes page n).byteAt sp i = s.byteAt sp i := by
  induction n with
  | zero => rfl
  | succ n ih => rw [State.dmaBytes, dmaByte_byteAt _ _ _ _ _ h, ih]

/-! ## CPU writes -/

/-- Of the CPU a write can change only the NMI latch (through PPUCTRL) and the stolen cycles (through $4014). -/
theorem busWrite_cpu (s : State) (a : Word) (v : Byte) :
    (s.busWrite a v).cpu =
      { s.cpu with
        nmiPending := (s.busWrite a v).cpu.nmiPending
        dmaStall := (s.busWrite a v).cpu.dmaStall } := by
  unfold State.busWrite
  split
  · rfl
  · split
    · rfl
    · split
      · rw [regWrite_eq]
      · split
        · unfold State.oamDma; dsimp only; rw [dmaBytes_eq]
        · split
          · unfold State.writeStrobe; split <;> rfl
          · rfl

/-- A CPU write leaves every memory cell that it does not store to (R1311). -/
theorem busWrite_byteAt (s : State) (a : Word) (v : Byte) (sp : Space) (i : Nat)
    (h : s.storesTo a sp i = false) : (s.busWrite a v).byteAt sp i = s.byteAt sp i := by
  by_cases hlo : a.toNat ≤ 0x1FFF
  · rw [busWrite_ram s a v hlo]
    simp only [State.storesTo, if_pos hlo] at h
    cases sp <;> simp only [State.byteAt]
    simp only [beq_self_eq_true, Bool.true_and, beq_eq_false_iff_ne] at h
    exact Memory.read_write_ne _ _ (Ne.symm h)
  · simp only [State.storesTo, if_neg hlo] at h
    unfold State.busWrite
    by_cases hreg : a.toNat ≤ 0x3FFF
    · rw [cartWrite_of_lt s a v (by omega)]
      simp only [if_neg hlo, if_pos hreg] at h ⊢
      refine regWrite_byteAt s _ v sp i ?_ ?_
      · intro h4; rw [toNat_ppuRegOf] at h4; simpa [h4] using h
      · intro h7; rw [toNat_ppuRegOf] at h7; simpa [h7] using h
    · simp only [if_neg hreg] at h
      by_cases hdma : a = 0x4014
      · subst hdma
        rw [cartWrite_of_lt s _ v (by decide)]
        simp only [if_neg hlo, if_neg hreg, if_true] at h ⊢
        have h' := dmaBytes_byteAt s v 256 sp i h
        unfold State.oamDma
        generalize s.dmaBytes v 256 = t at h' ⊢
        exact (byteAt_congr rfl rfl rfl rfl rfl rfl sp i).trans h'
      · simp only [if_neg hdma] at h
        by_cases hram : 0x6000 ≤ a.toNat
        · cases hc : s.cart with
          | none =>
            simp only [Option.bind_none, if_neg hlo, if_neg hreg, if_neg hdma]
            rw [if_neg (by intro h; subst h; exact absurd hram (by decide))]
          | some c =>
            simp only [Option.bind_some, Cartridge.cpuWrite]
            by_cases hrom : 0x8000 ≤ a.toNat
            · rw [if_pos hrom]
              apply byteAt_congr <;> simp [hc]
            · rw [if_neg hrom, if_pos hram]
              rw [if_pos (by omega)] at h
              cases hr : c.prgRam with
              | none =>
                simp only [Option.map_none, if_neg hlo, if_neg hreg, if_neg hdma]
                rw [if_neg (by intro h; subst h; exact absurd hram (by decide))]
              | some m =>
                simp only [Option.map_some]
                cases sp <;> simp only [State.byteAt, hc, hr, Option.bind_some]
                simp only [beq_self_eq_true, Bool.true_and, beq_eq_false_iff_ne] at h
                exact Memory.read_write_ne _ _ (Ne.symm h)
        · rw [cartWrite_of_lt s a v (by omega)]
          simp only [if_neg hlo, if_neg hreg, if_neg hdma]
          split
          · unfold State.writeStrobe
            split <;> exact byteAt_congr rfl rfl rfl rfl rfl rfl sp i
          · rfl

end Sys2Proof.Machine
end

