-- ==== Sys2Proof/Laws/Exec.lean ====
section
/-! SUPPORT. One lemma per mnemonic with operands: the shape its rows run, with the row's own counts (R311). Below
them, what the addressing modes read: only page zero, so no mode changes the state. -/

namespace Sys2Proof.Machine

variable {i : Instr} (s : State)

theorem exec_lda {o : Source} (hm : i.mnemonic = .lda) (ho : i.row.operand.source = some o) :
    exec i s = readShape o i.row.base i.row.pageCross opLda s := by
  cases i <;> cases hm <;> cases ho <;> rfl

theorem exec_ldx {o : Source} (hm : i.mnemonic = .ldx) (ho : i.row.operand.source = some o) :
    exec i s = readShape o i.row.base i.row.pageCross opLdx s := by
  cases i <;> cases hm <;> cases ho <;> rfl

theorem exec_ldy {o : Source} (hm : i.mnemonic = .ldy) (ho : i.row.operand.source = some o) :
    exec i s = readShape o i.row.base i.row.pageCross opLdy s := by
  cases i <;> cases hm <;> cases ho <;> rfl

theorem exec_lax {o : Source} (hm : i.mnemonic = .lax) (ho : i.row.operand.source = some o) :
    exec i s = readShape o i.row.base i.row.pageCross opLax s := by
  cases i <;> cases hm <;> cases ho <;> rfl

theorem exec_adc {o : Source} (hm : i.mnemonic = .adc) (ho : i.row.operand.source = some o) :
    exec i s = readShape o i.row.base i.row.pageCross opAdc s := by
  cases i <;> cases hm <;> cases ho <;> rfl

theorem exec_sbc {o : Source} (hm : i.mnemonic = .sbc) (ho : i.row.operand.source = some o) :
    exec i s = readShape o i.row.base i.row.pageCross opSbc s := by
  cases i <;> cases hm <;> cases ho <;> rfl

theorem exec_and {o : Source} (hm : i.mnemonic = .and_) (ho : i.row.operand.source = some o) :
    exec i s = readShape o i.row.base i.row.pageCross opAnd s := by
  cases i <;> cases hm <;> cases ho <;> rfl

theorem exec_ora {o : Source} (hm : i.mnemonic = .ora) (ho : i.row.operand.source = some o) :
    exec i s = readShape o i.row.base i.row.pageCross opOra s := by
  cases i <;> cases hm <;> cases ho <;> rfl

theorem exec_eor {o : Source} (hm : i.mnemonic = .eor) (ho : i.row.operand.source = some o) :
    exec i s = readShape o i.row.base i.row.pageCross opEor s := by
  cases i <;> cases hm <;> cases ho <;> rfl

theorem exec_bit {o : Source} (hm : i.mnemonic = .bit) (ho : i.row.operand.source = some o) :
    exec i s = readShape o i.row.base i.row.pageCross opBit s := by
  cases i <;> cases hm <;> cases ho <;> rfl

theorem exec_cmp {o : Source} (hm : i.mnemonic = .cmp) (ho : i.row.operand.source = some o) :
    exec i s = readShape o i.row.base i.row.pageCross opCmp s := by
  cases i <;> cases hm <;> cases ho <;> rfl

theorem exec_cpx {o : Source} (hm : i.mnemonic = .cpx) (ho : i.row.operand.source = some o) :
    exec i s = readShape o i.row.base i.row.pageCross opCpx s := by
  cases i <;> cases hm <;> cases ho <;> rfl

theorem exec_cpy {o : Source} (hm : i.mnemonic = .cpy) (ho : i.row.operand.source = some o) :
    exec i s = readShape o i.row.base i.row.pageCross opCpy s := by
  cases i <;> cases hm <;> cases ho <;> rfl

theorem exec_nop {o : Source} (hm : i.mnemonic = .nop) (ho : i.row.operand.source = some o) :
    exec i s = readShape o i.row.base i.row.pageCross opNopRead s := by
  cases i <;> cases hm <;> cases ho <;> rfl

theorem exec_sta {m : MemMode} (hm : i.mnemonic = .sta) (ho : i.row.operand.mode = some m) :
    exec i s = storeShape m i.row.base State.valA s := by
  cases i <;> cases hm <;> cases ho <;> rfl

theorem exec_stx {m : MemMode} (hm : i.mnemonic = .stx) (ho : i.row.operand.mode = some m) :
    exec i s = storeShape m i.row.base State.valX s := by
  cases i <;> cases hm <;> cases ho <;> rfl

theorem exec_sty {m : MemMode} (hm : i.mnemonic = .sty) (ho : i.row.operand.mode = some m) :
    exec i s = storeShape m i.row.base State.valY s := by
  cases i <;> cases hm <;> cases ho <;> rfl

theorem exec_sax {m : MemMode} (hm : i.mnemonic = .sax) (ho : i.row.operand.mode = some m) :
    exec i s = storeShape m i.row.base State.valAX s := by
  cases i <;> cases hm <;> cases ho <;> rfl

theorem exec_asl {o : Target} (hm : i.mnemonic = .asl) (ho : i.row.operand.target = some o) :
    exec i s = rmwShape o i.row.base shiftLeft State.setNZ s := by
  cases i <;> cases hm <;> cases ho <;> rfl

theorem exec_lsr {o : Target} (hm : i.mnemonic = .lsr) (ho : i.row.operand.target = some o) :
    exec i s = rmwShape o i.row.base shiftRight State.setNZ s := by
  cases i <;> cases hm <;> cases ho <;> rfl

theorem exec_rol {o : Target} (hm : i.mnemonic = .rol) (ho : i.row.operand.target = some o) :
    exec i s = rmwShape o i.row.base rotateLeft State.setNZ s := by
  cases i <;> cases hm <;> cases ho <;> rfl

theorem exec_ror {o : Target} (hm : i.mnemonic = .ror) (ho : i.row.operand.target = some o) :
    exec i s = rmwShape o i.row.base rotateRight State.setNZ s := by
  cases i <;> cases hm <;> cases ho <;> rfl

theorem exec_inc {o : Target} (hm : i.mnemonic = .inc) (ho : i.row.operand.target = some o) :
    exec i s = rmwShape o i.row.base increment State.setNZ s := by
  cases i <;> cases hm <;> cases ho <;> rfl

theorem exec_dec {o : Target} (hm : i.mnemonic = .dec) (ho : i.row.operand.target = some o) :
    exec i s = rmwShape o i.row.base decrement State.setNZ s := by
  cases i <;> cases hm <;> cases ho <;> rfl

theorem exec_slo {o : Target} (hm : i.mnemonic = .slo) (ho : i.row.operand.target = some o) :
    exec i s = rmwShape o i.row.base shiftLeft opOra s := by
  cases i <;> cases hm <;> cases ho <;> rfl

theorem exec_rla {o : Target} (hm : i.mnemonic = .rla) (ho : i.row.operand.target = some o) :
    exec i s = rmwShape o i.row.base rotateLeft opAnd s := by
  cases i <;> cases hm <;> cases ho <;> rfl

theorem exec_sre {o : Target} (hm : i.mnemonic = .sre) (ho : i.row.operand.target = some o) :
    exec i s = rmwShape o i.row.base shiftRight opEor s := by
  cases i <;> cases hm <;> cases ho <;> rfl

theorem exec_rra {o : Target} (hm : i.mnemonic = .rra) (ho : i.row.operand.target = some o) :
    exec i s = rmwShape o i.row.base rotateRight State.addWithCarry s := by
  cases i <;> cases hm <;> cases ho <;> rfl

theorem exec_dcp {o : Target} (hm : i.mnemonic = .dcp) (ho : i.row.operand.target = some o) :
    exec i s = rmwShape o i.row.base decrement opCmp s := by
  cases i <;> cases hm <;> cases ho <;> rfl

theorem exec_isb {o : Target} (hm : i.mnemonic = .isb) (ho : i.row.operand.target = some o) :
    exec i s = rmwShape o i.row.base increment opSbc s := by
  cases i <;> cases hm <;> cases ho <;> rfl

/-- The implied NOPs (R920). -/
theorem exec_nop_implied (hm : i.mnemonic = .nop) (ho : i.row.operand = .imp) :
    exec i s = impliedShape i.row.base opNop s := by
  cases i <;> cases hm <;> cases ho <;> rfl

/-- The unknown opcodes (R1401). -/
theorem exec_unknown (hm : i.mnemonic = .unknown) : exec i s = .next s.raiseUnknownOpcode := by
  cases i <;> cases hm <;> rfl

/-! ## The addressing modes -/

theorem toNat_zeroPage (b : Byte) : (zeroPage b).toNat = b.toNat := by
  have := b.isLt
  simp [zeroPage]
  omega

theorem busRead_zeroPage (b : Byte) : s.busRead (zeroPage b) = s.ram.read b.toNat := by
  have := b.isLt
  have h := toNat_zeroPage b
  rw [busRead_ram s _ (by omega), h, Nat.mod_eq_of_lt (by omega)]

theorem afterRead_zeroPage (b : Byte) : s.afterRead (zeroPage b) = s := by
  have := b.isLt
  have h := toNat_zeroPage b
  exact afterRead_of_ram s _ (by omega)

/-- A zero-page pointer is two bytes of work RAM, the second at `u8(b + 1)` (R408, R409). -/
theorem zpPointer_eq (b : Byte) : s.zpPointer b = wordOf (s.ram.read b.toNat) (s.ram.read (b + 1).toNat) := by
  rw [State.zpPointer, busRead_zeroPage, afterRead_zeroPage, busRead_zeroPage]

/-- Reading a pointer changes nothing: page zero is work RAM. -/
@[simp] theorem afterMode_eq (m : MemMode) : afterMode m s = s := by
  cases m <;> simp [afterMode, State.afterZpPointer, afterRead_zeroPage]

theorem Source.value_mem (m : MemMode) : (Source.mem m).value s = s.busRead (effAddr m s) := by
  simp [Source.value]

theorem Source.after_mem (m : MemMode) : (Source.mem m).after s = s.afterRead (effAddr m s) := by
  simp [Source.after]

/-- Reading an operand leaves the CPU's registers. -/
@[simp] theorem Source.after_cpu (o : Source) : (o.after s).cpu = s.cpu := by
  cases o <;> simp [Source.after]

theorem storeAt_eq (m : MemMode) (v : Byte) : storeAt m v s = s.busWrite (effAddr m s) v := by
  simp [storeAt]

theorem Target.value_mem (m : MemMode) : (Target.mem m).value s = s.busRead (effAddr m s) := by
  simp [Target.value]

/-- A read-modify-write of memory: one read, two writes, and the carry into P (R700, R222). -/
theorem Target.modify_mem (m : MemMode) (f : Byte → Bool → ShiftResult) :
    (Target.mem m).modify f s =
      let ea := effAddr m s
      let s3 := ((s.afterRead ea).busWrite ea (s.busRead ea)).busWrite ea (f (s.busRead ea) (flagC s.cpu.p)).value
      s3.setP (carryOut s3.cpu.p (f (s.busRead ea) (flagC s.cpu.p))) := by
  simp [Target.modify, Target.result, Target.value]

/-! ## Interrupt and trap entry, and the return -/

/-- Taking an interrupt or trap in full, up to the vector read (R834, R1420): three bytes of page one, SP, I, PC. -/
theorem enterHandler_cpu (ret : Word) (status : Byte) (vec : Word) :
    (s.enterHandler ret status vec).cpu =
      { s.cpu with
        sp := s.cpu.sp - 1 - 1 - 1
        p := withI s.cpu.p true
        pc := (s.enterHandler ret status vec).cpu.pc } := by
  simp [State.enterHandler, State.afterRead16, push_eq, pushPc_eq]

/-- Taking an interrupt or trap through a vector in the ROM space, in full (R834, R1420). -/
theorem enterHandler_eq (ret : Word) (status : Byte) (vec : Word) (h1 : 0x8000 ≤ vec.toNat) (h2 : 0x8000 ≤ (vec + 1).toNat) :
    s.enterHandler ret status vec =
      { s with
        ram := ((s.ram.write (256 + s.cpu.sp.toNat) (hiByte ret)).write (256 + (s.cpu.sp - 1).toNat) (loByte ret)).write
          (256 + (s.cpu.sp - 1 - 1).toNat) status
        cpu.sp := s.cpu.sp - 1 - 1 - 1
        cpu.p := withI s.cpu.p true
        cpu.pc := wordOf (s.busRead vec) (s.busRead (vec + 1)) } := by
  unfold State.enterHandler
  simp only [pushPc_eq, push_eq, State.afterRead16, State.read16]
  rw [afterRead_high _ _ h1, afterRead_high _ _ h2, busRead_high (s := s) vec h1, busRead_high (s := s) (vec + 1) h2] <;>
    rfl

/-- The return from an interrupt or trap (R833, R1430): P, PC and SP, and nothing else. -/
theorem returnFromInterrupt_eq :
    s.returnFromInterrupt =
      { s with
        cpu.p := pulledStatus (s.ram.read (256 + (s.cpu.sp + 1).toNat))
        cpu.sp := s.cpu.sp + 1 + 1 + 1
        cpu.pc := wordOf (s.ram.read (256 + (s.cpu.sp + 1 + 1).toNat))
          (s.ram.read (256 + (s.cpu.sp + 1 + 1 + 1).toNat)) } := by
  simp only [State.returnFromInterrupt, afterPull_eq, pulled_eq, afterPullPc_eq, pulledPc_eq]
  rfl

end Sys2Proof.Machine
end

