-- ==== Sys2Proof/Laws/Inv.lean ====
section
/-! SUPPORT. The invariant (`State.Inv`), operation by operation: registers and flags, bus accesses, the stack, taking
an interrupt, and each stage of the PPU's dot. -/

namespace Sys2Proof.Machine

/-! ## The parts -/

theorem State.Inv.withCpu {s : State} (h : s.Inv) {c : Cpu} (hc : c.Inv) : State.Inv { s with cpu := c } :=
  ⟨hc, h.ppu, h.cart, h.ram, h.vram, h.shift1_high, h.shift2_high⟩

theorem State.Inv.withPpu {s : State} (h : s.Inv) {p : Ppu} (hp : p.Inv) : State.Inv { s with ppu := p } :=
  ⟨h.cpu, hp, h.cart, h.ram, h.vram, h.shift1_high, h.shift2_high⟩

theorem State.Inv.withCart {s : State} (h : s.Inv) {c : Option Cartridge} (hc : ∀ d, c = some d → d.Inv) :
    State.Inv { s with cart := c } :=
  ⟨h.cpu, h.ppu, hc, h.ram, h.vram, h.shift1_high, h.shift2_high⟩

theorem State.Inv.withRam {s : State} (h : s.Inv) {m : Memory} (hm : m.Inv 2048) : State.Inv { s with ram := m } :=
  ⟨h.cpu, h.ppu, h.cart, hm, h.vram, h.shift1_high, h.shift2_high⟩

theorem State.Inv.withVram {s : State} (h : s.Inv) {m : Memory} (hm : m.Inv 2048) : State.Inv { s with vram := m } :=
  ⟨h.cpu, h.ppu, h.cart, h.ram, hm, h.shift1_high, h.shift2_high⟩

theorem State.Inv.cpuClock_free {s : State} (h : s.Inv) (f : Cpu → Cpu) (hf : (f s.cpu).p = s.cpu.p) :
    State.Inv { s with cpu := f s.cpu } :=
  h.withCpu (by unfold Cpu.Inv; rw [hf]; exact h.cpu)

/-- A new P keeps the invariant when it keeps bits 4 and 5. -/
theorem State.Inv.setP {s : State} (h : s.Inv) {p : Byte} (hp : flagB p = false ∧ flagU p = true) : (s.setP p).Inv :=
  h.withCpu hp

theorem State.Inv.setA {s : State} (h : s.Inv) (v : Byte) : (s.setA v).Inv := h.withCpu h.cpu
theorem State.Inv.setX {s : State} (h : s.Inv) (v : Byte) : (s.setX v).Inv := h.withCpu h.cpu
theorem State.Inv.setY {s : State} (h : s.Inv) (v : Byte) : (s.setY v).Inv := h.withCpu h.cpu
theorem State.Inv.setSp {s : State} (h : s.Inv) (v : Byte) : (s.setSp v).Inv := h.withCpu h.cpu
theorem State.Inv.setPc {s : State} (h : s.Inv) (v : Word) : (s.setPc v).Inv := h.withCpu h.cpu
theorem State.Inv.loadCycles {s : State} (h : s.Inv) (b e : Nat) : (s.loadCycles b e).Inv := h.withCpu h.cpu
theorem State.Inv.raiseUnknownOpcode {s : State} (h : s.Inv) : s.raiseUnknownOpcode.Inv := h.withCpu h.cpu

theorem setBit_stored {p : Byte} (hp : flagB p = false ∧ flagU p = true) (i : Nat) (b : Bool) (hi : i < 8)
    (h4 : i ≠ 4) (h5 : i ≠ 5) : flagB (setBit p i b) = false ∧ flagU (setBit p i b) = true := by
  unfold flagB flagU
  rw [getLsbD_setBit _ _ _ _ hi, getLsbD_setBit _ _ _ _ hi, if_neg (Ne.symm h4), if_neg (Ne.symm h5)]
  exact hp

theorem withC_stored {p : Byte} (hp : flagB p = false ∧ flagU p = true) (b : Bool) :
    flagB (withC p b) = false ∧ flagU (withC p b) = true :=
  setBit_stored hp 0 b (by decide) (by decide) (by decide)

theorem withZ_stored {p : Byte} (hp : flagB p = false ∧ flagU p = true) (b : Bool) :
    flagB (withZ p b) = false ∧ flagU (withZ p b) = true :=
  setBit_stored hp 1 b (by decide) (by decide) (by decide)

theorem withI_stored {p : Byte} (hp : flagB p = false ∧ flagU p = true) (b : Bool) :
    flagB (withI p b) = false ∧ flagU (withI p b) = true :=
  setBit_stored hp 2 b (by decide) (by decide) (by decide)

theorem withD_stored {p : Byte} (hp : flagB p = false ∧ flagU p = true) (b : Bool) :
    flagB (withD p b) = false ∧ flagU (withD p b) = true :=
  setBit_stored hp 3 b (by decide) (by decide) (by decide)

theorem withV_stored {p : Byte} (hp : flagB p = false ∧ flagU p = true) (b : Bool) :
    flagB (withV p b) = false ∧ flagU (withV p b) = true :=
  setBit_stored hp 6 b (by decide) (by decide) (by decide)

theorem withN_stored {p : Byte} (hp : flagB p = false ∧ flagU p = true) (b : Bool) :
    flagB (withN p b) = false ∧ flagU (withN p b) = true :=
  setBit_stored hp 7 b (by decide) (by decide) (by decide)

theorem pulledStatus_stored (v : Byte) : flagB (pulledStatus v) = false ∧ flagU (pulledStatus v) = true := by
  unfold flagB flagU
  rw [pulledStatus_bits, pulledStatus_bits]
  simp

theorem State.Inv.setNZ {s : State} (h : s.Inv) (v : Byte) : (s.setNZ v).Inv :=
  h.setP (withN_stored (withZ_stored h.cpu _) _)

theorem State.Inv.addWithCarry {s : State} (h : s.Inv) (v : Byte) : (s.addWithCarry v).Inv :=
  ((h.setP (withV_stored (withC_stored h.cpu _) _)).setA _).setNZ _

theorem State.Inv.compare {s : State} (h : s.Inv) (r m : Byte) : (s.compare r m).Inv :=
  h.setP (withN_stored (withZ_stored (withC_stored h.cpu _) _) _)

theorem State.Inv.carryOut {s : State} (h : s.Inv) (r : ShiftResult) : (s.setP (carryOut s.cpu.p r)).Inv := by
  refine h.setP ?_
  unfold Machine.carryOut
  split
  · exact withC_stored h.cpu _
  · exact h.cpu

/-! ## Cartridges -/

theorem Mmc3.Inv.of_regs {m m' : Mmc3} (h : m.Inv) (hr : m'.regs = m.regs) : m'.Inv :=
  ⟨by simpa only [hr] using h.r0_even, by simpa only [hr] using h.r1_even, by simpa only [hr] using h.r6_low,
    by simpa only [hr] using h.r7_low⟩

theorem Cartridge.Inv.withMapper {c : Cartridge} (h : c.Inv) {m : Mapper} (hm : m.Inv) :
    Cartridge.Inv { c with mapper := m } :=
  ⟨h.prgBanks_pos, h.prgRamBanks_pos, h.prgRom, h.chr, h.prgRam, hm⟩

theorem Cartridge.Inv.snoop {c : Cartridge} (h : c.Inv) (n : Nat) (a : BitVec 14) : (c.snoop n a).Inv := by
  unfold Cartridge.snoop
  split
  · next m hm =>
    have hmi : m.Inv := by have := h.mapper; rw [hm] at this; exact this
    exact h.withMapper (m := .mmc3 (m.snoop n a)) (hmi.of_regs (Mmc3.snoop_regs m n a))
  · exact h

theorem Cartridge.Inv.cpuClock {c : Cartridge} (h : c.Inv) : c.cpuClock.Inv := by
  unfold Cartridge.cpuClock
  split
  · next m hm =>
    have hmi : m.Inv := by have := h.mapper; rw [hm] at this; exact this
    split
    · exact h
    · exact h.withMapper (m := .mmc3 _) (hmi.of_regs rfl)
  · exact h

theorem Mmc3.Inv.bankData {m : Mmc3} (h : m.Inv) (v : Byte) : (m.bankData v).Inv := by
  have hb := m.bankSelect.isLt
  have even : ∀ v : Byte, (v &&& 0xFE).getLsbD 0 = false := by decide
  have low : ∀ v : Byte, (v &&& 0x3F).toNat < 64 := by decide
  have e : m.bankSelect.toNat = 0 ∨ m.bankSelect.toNat = 1 ∨ m.bankSelect.toNat = 2 ∨ m.bankSelect.toNat = 3 ∨
      m.bankSelect.toNat = 4 ∨ m.bankSelect.toNat = 5 ∨ m.bankSelect.toNat = 6 ∨ m.bankSelect.toNat = 7 := by omega
  rcases e with e | e | e | e | e | e | e | e <;>
    refine ⟨?_, ?_, ?_, ?_⟩ <;>
    simp only [Mmc3.bankData, Vector.getElem_set, e] <;>
    first
      | exact even v
      | exact low v
      | exact h.r0_even
      | exact h.r1_even
      | exact h.r6_low
      | exact h.r7_low

theorem Mmc3.Inv.write {m : Mmc3} (h : m.Inv) (a : Word) (v : Byte) : (m.write a v).Inv := by
  unfold Mmc3.write
  split
  · exact h.of_regs rfl
  · exact h.bankData v
  · exact h.of_regs rfl
  · exact h.of_regs rfl
  · exact h.of_regs rfl
  · exact h.of_regs rfl
  · exact h.of_regs rfl
  · exact h

theorem Mapper.Inv.write {m : Mapper} (h : m.Inv) (a : Word) (v : Byte) : (m.write a v).Inv := by
  cases m <;> first | trivial | exact Mmc3.Inv.write h a v

theorem Cartridge.Inv.cpuWrite {c d : Cartridge} (h : c.Inv) (a : Word) (v : Byte) (hd : c.cpuWrite a v = some d) :
    d.Inv := by
  unfold Cartridge.cpuWrite at hd
  split at hd
  · obtain rfl := (Option.some.inj hd).symm
    exact h.withMapper (h.mapper.write a v)
  · split at hd
    · cases hr : c.prgRam with
      | none => rw [hr] at hd; cases hd
      | some m =>
        rw [hr] at hd
        obtain rfl := (Option.some.inj hd).symm
        refine ⟨h.prgBanks_pos, h.prgRamBanks_pos, h.prgRom, h.chr, ?_, h.mapper⟩
        intro m' hm'
        obtain rfl := (Option.some.inj hm').symm
        refine (h.prgRam m hr).write v ?_
        have := h.prgRamBanks_pos
        show a.toNat % 8192 < 8192 * c.prgRamBanks
        omega
    · cases hd

theorem chrIndex_lt {c : Cartridge} (a : BitVec 14) (ha : a.toNat < 0x2000) (hr : c.chrIsRam = true) :
    c.chrIndex a < c.chrSize := by
  have h0 : c.chrBanks = 0 := by simpa [Cartridge.chrIsRam] using hr
  have hs : c.chrSize = 8192 := by simp [Cartridge.chrSize, h0]
  unfold Cartridge.chrIndex
  rw [hs]
  split
  · omega
  · omega
  · exact Nat.mod_lt _ (by omega)
  · exact Nat.mod_lt _ (by omega)
  · exact Nat.mod_lt _ (by omega)

theorem Cartridge.Inv.ppuWrite {c d : Cartridge} (h : c.Inv) (a : BitVec 14) (v : Byte)
    (hd : c.ppuWrite a v = some d) : d.Inv := by
  unfold Cartridge.ppuWrite at hd
  split at hd
  · next ha =>
    obtain rfl := (Option.some.inj hd).symm
    split
    · next hr =>
      exact ⟨h.prgBanks_pos, h.prgRamBanks_pos, h.prgRom, h.chr.write v (chrIndex_lt a ha hr), h.prgRam, h.mapper⟩
    · exact h
  · cases hd

theorem vramIndex_lt (c : Cartridge) (a : BitVec 14) : c.vramIndex a < 2048 := by
  unfold Cartridge.vramIndex
  dsimp only
  split <;> split <;> omega

/-! ## Bus accesses -/

theorem State.Inv.snoopPpuBus {s : State} (h : s.Inv) (a : BitVec 14) : (s.snoopPpuBus a).Inv := by
  refine h.withCart ?_
  intro d hd
  cases hc : s.cart with
  | none => rw [hc] at hd; cases hd
  | some c =>
    rw [hc] at hd
    obtain rfl := (Option.some.inj hd).symm
    exact (h.cart c hc).snoop _ _

theorem State.Inv.afterPpuRead {s : State} (h : s.Inv) (a : BitVec 14) : (s.afterPpuRead a).Inv := by
  unfold State.afterPpuRead
  split
  · exact h
  · exact h.snoopPpuBus a

theorem Ppu.Inv.of_eq {p q : Ppu} (h : p.Inv) (h1 : q.scanline = p.scanline) (h2 : q.dot = p.dot)
    (h3 : q.secCount = p.secCount) (h4 : q.sprCount = p.sprCount) (h5 : q.oam = p.oam) (h6 : q.secOam = p.secOam) :
    q.Inv :=
  ⟨by rw [h1]; exact h.scanline_low, by rw [h1]; exact h.scanline_high, by rw [h2]; exact h.dot_high,
    by rw [h3]; exact h.secCount_high, by rw [h4]; exact h.sprCount_high, by rw [h5]; exact h.oam,
    by rw [h6]; exact h.secOam⟩

theorem State.Inv.afterRegRead {s : State} (h : s.Inv) (r : BitVec 3) : (s.afterRegRead r).Inv := by
  unfold State.afterRegRead
  split
  · exact h.withPpu (h.ppu.of_eq rfl rfl rfl rfl rfl rfl)
  · exact (h.afterPpuRead _).withPpu ((h.afterPpuRead _).ppu.of_eq rfl rfl rfl rfl rfl rfl)
  · exact h

theorem padShift_le {n : Nat} (b : Bool) (h : n ≤ 8) : padShift b n ≤ 8 := by
  unfold padShift
  split
  · next hc => simp at hc; omega
  · exact h

theorem State.Inv.afterRead {s : State} (h : s.Inv) (a : Word) : (s.afterRead a).Inv := by
  unfold State.afterRead
  split
  · exact h
  · repeat' split
    · exact h
    · exact h.afterRegRead _
    · exact ⟨h.cpu, h.ppu, h.cart, h.ram, h.vram, padShift_le _ h.shift1_high, h.shift2_high⟩
    · exact ⟨h.cpu, h.ppu, h.cart, h.ram, h.vram, h.shift1_high, padShift_le _ h.shift2_high⟩
    · exact h

theorem State.Inv.ppuWrite {s : State} (h : s.Inv) (a : BitVec 14) (v : Byte) : (s.ppuWrite a v).Inv := by
  unfold State.ppuWrite
  split
  · exact h.withPpu (h.ppu.of_eq rfl rfl rfl rfl rfl rfl)
  · have hs := h.snoopPpuBus a
    generalize s.snoopPpuBus a = t at hs ⊢
    unfold State.ppuBusWrite
    split
    · next d hd =>
      refine hs.withCart ?_
      intro d' hd'
      obtain rfl := (Option.some.inj hd').symm
      cases hc : t.cart with
      | none => rw [hc] at hd; cases hd
      | some c => rw [hc] at hd; exact (hs.cart c hc).ppuWrite a v hd
    · split
      · next i hi =>
        refine hs.withVram (hs.vram.write v ?_)
        unfold State.vramTarget at hi
        split at hi
        · cases hc : t.cart with
          | none => rw [hc] at hi; cases hi
          | some c => rw [hc] at hi; obtain rfl := (Option.some.inj hi).symm; exact vramIndex_lt c a
        · cases hi
      · exact hs

theorem State.Inv.signalNmi {s : State} (h : s.Inv) : s.signalNmi.Inv := by
  unfold State.signalNmi
  split
  · exact h.withCpu h.cpu
  · exact h

theorem State.Inv.regWrite {s : State} (h : s.Inv) (r : BitVec 3) (v : Byte) : (s.regWrite r v).Inv := by
  have h' : (s.refreshOpenBus v).Inv := h.withPpu (h.ppu.of_eq rfl rfl rfl rfl rfl rfl)
  unfold State.regWrite
  dsimp only
  generalize s.refreshOpenBus v = t at h' ⊢
  split
  · unfold State.writeCtrl
    dsimp only
    split
    · exact State.Inv.signalNmi (h'.withPpu (h'.ppu.of_eq rfl rfl rfl rfl rfl rfl))
    · exact h'.withPpu (h'.ppu.of_eq rfl rfl rfl rfl rfl rfl)
  · exact h'.withPpu (h'.ppu.of_eq rfl rfl rfl rfl rfl rfl)
  · exact h'.withPpu (h'.ppu.of_eq rfl rfl rfl rfl rfl rfl)
  · refine h'.withPpu ?_
    unfold Ppu.writeOamData
    split
    · exact h'.ppu
    · exact ⟨h'.ppu.scanline_low, h'.ppu.scanline_high, h'.ppu.dot_high, h'.ppu.secCount_high, h'.ppu.sprCount_high,
        h'.ppu.oam.write v t.ppu.oamAddr.isLt, h'.ppu.secOam⟩
  · refine h'.withPpu ?_
    unfold Ppu.writeScroll
    split <;> exact h'.ppu.of_eq rfl rfl rfl rfl rfl rfl
  · refine h'.withPpu ?_
    unfold Ppu.writeAddr
    split <;> exact h'.ppu.of_eq rfl rfl rfl rfl rfl rfl
  · exact (h'.ppuWrite _ v).withPpu ((h'.ppuWrite _ v).ppu.of_eq rfl rfl rfl rfl rfl rfl)
  · exact h'

theorem State.Inv.dmaBytes {s : State} (h : s.Inv) (page : Byte) (n : Nat) : (s.dmaBytes page n).Inv := by
  induction n with
  | zero => exact h
  | succ n ih =>
    rw [State.dmaBytes]
    generalize s.dmaBytes page n = t at ih ⊢
    have h1 := ih.afterRead (page ++ BitVec.ofNat 8 n)
    unfold State.dmaByte
    exact h1.withPpu ⟨h1.ppu.scanline_low, h1.ppu.scanline_high, h1.ppu.dot_high, h1.ppu.secCount_high,
      h1.ppu.sprCount_high, h1.ppu.oam.write _ (BitVec.isLt _), h1.ppu.secOam⟩

theorem State.Inv.busWrite {s : State} (h : s.Inv) (a : Word) (v : Byte) : (s.busWrite a v).Inv := by
  unfold State.busWrite
  split
  · next d hd =>
    refine h.withCart ?_
    intro d' hd'
    obtain rfl := (Option.some.inj hd').symm
    cases hc : s.cart with
    | none => rw [hc] at hd; cases hd
    | some c => rw [hc] at hd; exact (h.cart c hc).cpuWrite a v hd
  · split
    · exact h.withRam (h.ram.write v (Nat.mod_lt _ (by decide)))
    · split
      · exact h.regWrite _ v
      · split
        · have h1 := h.dmaBytes v 256
          unfold State.oamDma
          generalize s.dmaBytes v 256 = t at h1 ⊢
          exact h1.withCpu h1.cpu
        · split
          · unfold State.writeStrobe
            split
            · exact ⟨h.cpu, h.ppu, h.cart, h.ram, h.vram, Nat.zero_le _, Nat.zero_le _⟩
            · exact ⟨h.cpu, h.ppu, h.cart, h.ram, h.vram, h.shift1_high, h.shift2_high⟩
          · exact h

/-! ## The stack, and taking and leaving an interrupt -/

theorem State.Inv.push {s : State} (h : s.Inv) (v : Byte) : (s.push v).Inv := (h.busWrite _ v).setSp _

theorem State.Inv.pushPc {s : State} (h : s.Inv) (a : Word) : (s.pushPc a).Inv := (h.push _).push _

theorem State.Inv.afterPull {s : State} (h : s.Inv) : s.afterPull.Inv := (h.setSp _).afterRead _

theorem State.Inv.enterHandler {s : State} (h : s.Inv) (ret : Word) (status : Byte) (vec : Word) :
    (s.enterHandler ret status vec).Inv := by
  unfold State.enterHandler
  have h1 := (h.pushPc ret).push status
  exact State.Inv.setPc (((h1.setP (withI_stored h1.cpu true)).afterRead vec).afterRead (vec + 1)) _

theorem State.Inv.returnFromInterrupt {s : State} (h : s.Inv) : s.returnFromInterrupt.Inv := by
  unfold State.returnFromInterrupt
  have h1 := h.afterPull.setP (pulledStatus_stored s.pulled)
  exact State.Inv.setPc h1.afterPull.afterPull _

theorem State.Inv.interruptEntry {s : State} (h : s.Inv) (k : InterruptKind) : (s.interruptEntry k).Inv := by
  unfold State.interruptEntry
  cases k
  · have h1 := h.enterHandler s.cpu.pc (pushedByInterrupt s.cpu.p) nmiVector
    exact h1.withCpu h1.cpu
  · have h1 := h.enterHandler s.cpu.pc (pushedByInterrupt s.cpu.p) irqVector
    exact h1.withCpu h1.cpu

/-! ## The shapes -/

theorem Source.after_inv {s : State} (h : s.Inv) (o : Source) : (o.after s).Inv := by
  cases o with
  | imm b => exact h
  | mem m => rw [Source.after_mem]; exact h.afterRead _

theorem Target.modify_inv {s : State} (h : s.Inv) (o : Target) (f : Byte → Bool → ShiftResult) :
    (o.modify f s).Inv := by
  unfold Target.modify
  dsimp only
  cases o with
  | acc => exact (h.setA _).carryOut _
  | mem m =>
    simp only [afterMode_eq]
    exact State.Inv.carryOut (((h.afterRead _).busWrite _ _).busWrite _ _) _

end Sys2Proof.Machine
end

