-- ==== Sys2Proof/Laws/Host.lean ====
section
/-! SUPPORT. Buffers filled from bytes, and the host's operations: what a load gives, what a power-on holds, and the
invariant after a reset. -/

namespace Sys2Proof.Machine

/-! ## Buffers filled from bytes -/

theorem Memory.read_ofBytesFrom (bs : List Byte) (n i : Nat) :
    (Memory.ofBytesFrom n bs).read i = if i < n then 0 else bs.getD (i - n) 0 := by
  induction bs generalizing n with
  | nil => simp [Memory.ofBytesFrom]
  | cons b bs ih =>
    have hu : Memory.unlisted = 0 := rfl
    unfold Memory.ofBytesFrom
    rcases Nat.lt_trichotomy i n with hlt | heq | hgt
    · split
      · rw [ih, if_pos (by omega)]
      · rw [Memory.read_cons, if_neg (by omega), ih, if_pos (by omega)]
    · subst heq
      split
      · next hb => rw [ih, if_pos (by omega)]; simp [hb, hu]
      · rw [Memory.read_cons]; simp
    · have e : i - n = (i - (n + 1)) + 1 := by omega
      split
      · rw [ih, if_neg (by omega), if_neg (by omega), e, List.getD_cons_succ]
      · rw [Memory.read_cons, if_neg (by omega), ih, if_neg (by omega), if_neg (by omega), e, List.getD_cons_succ]

/-- A buffer filled from bytes reads them in order. -/
theorem Memory.read_ofBytes (bs : List Byte) (i : Nat) : (Memory.ofBytes bs).read i = bs.getD i 0 := by
  rw [Memory.ofBytes, Memory.read_ofBytesFrom, if_neg (by omega), Nat.sub_zero]

theorem Memory.wfFrom_ofBytesFrom (bs : List Byte) (n k : Nat) (h : k ≤ n) :
    Memory.wfFrom k (Memory.ofBytesFrom n bs) = true := by
  induction bs generalizing n k with
  | nil => rfl
  | cons b bs ih =>
    unfold Memory.ofBytesFrom
    split
    · exact ih (n + 1) k (by omega)
    · next hb => simp only [Memory.wfFrom, ih (n + 1) (n + 1) (Nat.le_refl _), Bool.and_true]; simp [h, hb]

theorem Memory.bounded_ofBytesFrom (bs : List Byte) (n size : Nat) (h : n + bs.length ≤ size) :
    Memory.bounded size (Memory.ofBytesFrom n bs) = true := by
  induction bs generalizing n with
  | nil => rfl
  | cons b bs ih =>
    rw [List.length_cons] at h
    have := ih (n + 1) (by omega)
    unfold Memory.ofBytesFrom
    split
    · exact this
    · simp only [Memory.bounded, List.all_cons] at this ⊢
      simp only [this, Bool.and_true, decide_eq_true_eq]
      omega

/-- A buffer filled from at most `size` bytes is canonical and within its size. -/
theorem Memory.Inv.ofBytes {bs : List Byte} {size : Nat} (h : bs.length ≤ size) : (Memory.ofBytes bs).Inv size :=
  ⟨Memory.wfFrom_ofBytesFrom bs 0 0 (Nat.le_refl _), Memory.bounded_ofBytesFrom bs 0 size (by omega)⟩

/-- A drawn buffer holds the draw's bytes. -/
theorem Memory.read_drawn (size : Nat) (bytes : List Byte) {i : Nat} (h : i < size) :
    (Memory.drawn size bytes).read i = bytes.getD i 0 := by
  rw [Memory.drawn, Memory.read_ofBytes, List.getD_eq_getElem?_getD, List.getD_eq_getElem?_getD, List.getElem?_take,
    if_pos h]

theorem Memory.Inv.drawn (size : Nat) (bytes : List Byte) : (Memory.drawn size bytes).Inv size :=
  Memory.Inv.ofBytes (by rw [List.length_take]; exact Nat.min_le_left _ _)

/-! ## Loading -/

/-- The MMC3's private state at load and reset meets its invariant. -/
theorem Mmc3.initial_inv (m : Mirroring) : (Mmc3.initial m).Inv := by
  constructor <;> simp [Mmc3.initial]

/-- A mapper as a load and a reset leave it meets its invariant. -/
theorem Mapper.ofNumber_inv {n : Nat} {m : Mirroring} {mp : Mapper} (h : Mapper.ofNumber n m = some mp) : mp.Inv := by
  unfold Mapper.ofNumber at h
  split at h <;> cases h
  · trivial
  · trivial
  · trivial
  · exact Mmc3.initial_inv _
  · trivial

/-- The loads that succeed (R1202), and the cartridge of each (R1203). -/
theorem loadImage_ok {params : Params} {draw : PowerOnState} {image : List Byte} {c : Cartridge}
    (h : loadImage params draw image = .ok c) :
    let hd := Header.ofImage image
    hasMagic image = true ∧ hd.fourScreen = false ∧ hd.prgBanks ≠ 0 ∧ hd.declared ≤ image.length ∧
    ∃ mapper, Mapper.ofNumber hd.mapper hd.mirroring = some mapper ∧
      c =
        { prgBanks := hd.prgBanks
          prgRom := Memory.ofBytes ((image.drop hd.prgOffset).take (16384 * hd.prgBanks))
          chrBanks := hd.chrBanks
          chr :=
            if hd.chrBanks = 0 then Memory.drawn 8192 draw.chrRam
            else Memory.ofBytes ((image.drop hd.chrOffset).take (8192 * hd.chrBanks))
          prgRam :=
            if hd.battery || params.prgRamWithoutBattery then some (Memory.drawn (8192 * hd.prgRamBanks) draw.prgRam)
            else none
          prgRamBanks := hd.prgRamBanks
          mirroring := hd.mirroring
          battery := hd.battery
          mapper := mapper } := by
  unfold loadImage at h
  dsimp only at h ⊢
  split at h
  · cases h
  · next hm =>
    split at h
    · cases h
    · next mapper hmap =>
      split at h
      · cases h
      · next hf =>
        split at h
        · cases h
        · next hp =>
          split at h
          · cases h
          · next hl =>
            cases h
            exact ⟨by simpa using hm, by simpa using hf, hp, by omega, mapper, hmap, rfl⟩

/-- A cartridge that a load gives meets the invariant. -/
theorem loadImage_inv {params : Params} {draw : PowerOnState} {image : List Byte} {c : Cartridge}
    (h : loadImage params draw image = .ok c) : c.Inv := by
  obtain ⟨_, _, hp, _, mapper, hm, rfl⟩ := loadImage_ok h
  refine ⟨Nat.pos_of_ne_zero hp, ?_, ?_, ?_, ?_, Mapper.ofNumber_inv hm⟩
  · exact Nat.le_max_left 1 _
  · exact Memory.Inv.ofBytes (by rw [List.length_take]; exact Nat.min_le_left _ _)
  · unfold Cartridge.chrSize
    dsimp only
    split
    · exact Memory.Inv.drawn _ _
    · exact Memory.Inv.ofBytes (by rw [List.length_take]; exact Nat.min_le_left _ _)
  · intro m hm'
    dsimp only at hm'
    split at hm'
    · cases hm'
      exact Memory.Inv.drawn _ _
    · cases hm'

/-- The two outcomes of a load (R1202). -/
theorem hostLoad_cases (draw : PowerOnState) (image : List Byte) (s : State) :
    (∃ c, loadImage s.params draw image = .ok c ∧ hostLoad draw image s = ({ s with cart := some c }, none)) ∨
    (∃ e, loadImage s.params draw image = .error e ∧ hostLoad draw image s = ({ s with cart := none }, some e)) := by
  unfold hostLoad
  split
  · next c h => exact .inl ⟨c, h, rfl⟩
  · next e h => exact .inr ⟨e, h, rfl⟩

/-! ## Reset -/

/-- The mapper's reset hook keeps the cartridge well formed. -/
theorem Cartridge.Inv.resetMapper {c : Cartridge} (h : c.Inv) : c.resetMapper.Inv := by
  refine ⟨h.prgBanks_pos, h.prgRamBanks_pos, h.prgRom, h.chr, h.prgRam, ?_⟩
  unfold Cartridge.resetMapper
  dsimp only
  split
  · trivial
  · trivial
  · trivial
  · trivial
  · exact Mmc3.initial_inv _

/-- After a reset the invariant holds, whatever the registers were: reset sets every register, the memories and the
cartridge have to be well formed before, and RESET_P has to be a stored P (R103). -/
theorem hostReset_inv {s : State} (hp : flagB s.params.resetP = false ∧ flagU s.params.resetP = true)
    (hoam : s.ppu.oam.Inv 256) (hsec : s.ppu.secOam.Inv 32) (hram : s.ram.Inv 2048) (hvram : s.vram.Inv 2048)
    (hcart : ∀ c, s.cart = some c → c.Inv) : (hostReset s).Inv := by
  unfold hostReset
  dsimp only
  rw [State.afterRead16, afterRead_high _ resetVector (by decide), afterRead_high _ (resetVector + 1) (by decide)]
  apply State.Inv.setPc
  refine ⟨hp, ?_, ?_, hram, hvram, Nat.zero_le _, Nat.zero_le _⟩
  · exact ⟨Int.le_refl _, (by decide : (-1 : Int) ≤ 260), Nat.zero_le _, Nat.zero_le _, Nat.zero_le _, hoam, hsec⟩
  · intro c hc
    cases h : s.cart with
    | none => simp [h] at hc
    | some d => simp only [h, Option.map_some, Option.some.injEq] at hc; subst hc; exact (hcart d h).resetMapper

end Sys2Proof.Machine
end

