-- ==== Sys2Proof/Laws/PerInstr.lean ====
section
/-! SUPPORT. Per instruction: the opcode map's row of an instruction's opcode byte builds that instruction from its
operand bytes (R301, R310, R311 agree with each other). -/

namespace Sys2Proof.Laws.RowReads

/-- The instruction that a row of the opcode map builds from operand bytes, if there are as many as it takes. -/
def build : RowForm → List Byte → Option Instr
  | .null j, [] => some j
  | .one j, [] => some j
  | .two f, [b] => some (f b)
  | .three f, [lo, hi] => some (f (wordOf lo hi))
  | _, _ => none

/-- The row that the opcode map has at the opcode byte of `i` builds `i` from the operand bytes of `i`. -/
def Statement (i : Instr) : Prop := build (rowOf i.row.opcode) i.row.operand.bytes = some i

/-- A row of three bytes reads its word back. -/
theorem words (op : Byte) (f : Word → Instr) (a : Word) (h : rowOf op = .three f) :
    build (rowOf op) [loByte a, hiByte a] = some (f a) := by
  rw [h]
  exact congrArg (fun w => some (f w)) (Machine.wordOf_lo_hi a)

theorem oraIzx (a : Byte) : Statement (.oraIzx a) := (rfl : build (rowOf 0x01) [a] = some (.oraIzx a))
theorem sloIzx (a : Byte) : Statement (.sloIzx a) := (rfl : build (rowOf 0x03) [a] = some (.sloIzx a))
theorem nopZp04 (a : Byte) : Statement (.nopZp04 a) := (rfl : build (rowOf 0x04) [a] = some (.nopZp04 a))
theorem oraZp (a : Byte) : Statement (.oraZp a) := (rfl : build (rowOf 0x05) [a] = some (.oraZp a))
theorem aslZp (a : Byte) : Statement (.aslZp a) := (rfl : build (rowOf 0x06) [a] = some (.aslZp a))
theorem sloZp (a : Byte) : Statement (.sloZp a) := (rfl : build (rowOf 0x07) [a] = some (.sloZp a))
theorem oraImm (a : Byte) : Statement (.oraImm a) := (rfl : build (rowOf 0x09) [a] = some (.oraImm a))
theorem nopAbs0C (a : Word) : Statement (.nopAbs0C a) := words 0x0C .nopAbs0C a rfl
theorem oraAbs (a : Word) : Statement (.oraAbs a) := words 0x0D .oraAbs a rfl
theorem aslAbs (a : Word) : Statement (.aslAbs a) := words 0x0E .aslAbs a rfl
theorem sloAbs (a : Word) : Statement (.sloAbs a) := words 0x0F .sloAbs a rfl
theorem bpl (a : Byte) : Statement (.bpl a) := (rfl : build (rowOf 0x10) [a] = some (.bpl a))
theorem oraIzy (a : Byte) : Statement (.oraIzy a) := (rfl : build (rowOf 0x11) [a] = some (.oraIzy a))
theorem sloIzy (a : Byte) : Statement (.sloIzy a) := (rfl : build (rowOf 0x13) [a] = some (.sloIzy a))
theorem nopZpx14 (a : Byte) : Statement (.nopZpx14 a) := (rfl : build (rowOf 0x14) [a] = some (.nopZpx14 a))
theorem oraZpx (a : Byte) : Statement (.oraZpx a) := (rfl : build (rowOf 0x15) [a] = some (.oraZpx a))
theorem aslZpx (a : Byte) : Statement (.aslZpx a) := (rfl : build (rowOf 0x16) [a] = some (.aslZpx a))
theorem sloZpx (a : Byte) : Statement (.sloZpx a) := (rfl : build (rowOf 0x17) [a] = some (.sloZpx a))
theorem oraAbsy (a : Word) : Statement (.oraAbsy a) := words 0x19 .oraAbsy a rfl
theorem sloAbsy (a : Word) : Statement (.sloAbsy a) := words 0x1B .sloAbsy a rfl
theorem nopAbsx1C (a : Word) : Statement (.nopAbsx1C a) := words 0x1C .nopAbsx1C a rfl
theorem oraAbsx (a : Word) : Statement (.oraAbsx a) := words 0x1D .oraAbsx a rfl
theorem aslAbsx (a : Word) : Statement (.aslAbsx a) := words 0x1E .aslAbsx a rfl
theorem sloAbsx (a : Word) : Statement (.sloAbsx a) := words 0x1F .sloAbsx a rfl
theorem jsr (a : Word) : Statement (.jsr a) := words 0x20 .jsr a rfl
theorem andIzx (a : Byte) : Statement (.andIzx a) := (rfl : build (rowOf 0x21) [a] = some (.andIzx a))
theorem rlaIzx (a : Byte) : Statement (.rlaIzx a) := (rfl : build (rowOf 0x23) [a] = some (.rlaIzx a))
theorem bitZp (a : Byte) : Statement (.bitZp a) := (rfl : build (rowOf 0x24) [a] = some (.bitZp a))
theorem andZp (a : Byte) : Statement (.andZp a) := (rfl : build (rowOf 0x25) [a] = some (.andZp a))
theorem rolZp (a : Byte) : Statement (.rolZp a) := (rfl : build (rowOf 0x26) [a] = some (.rolZp a))
theorem rlaZp (a : Byte) : Statement (.rlaZp a) := (rfl : build (rowOf 0x27) [a] = some (.rlaZp a))
theorem andImm (a : Byte) : Statement (.andImm a) := (rfl : build (rowOf 0x29) [a] = some (.andImm a))
theorem bitAbs (a : Word) : Statement (.bitAbs a) := words 0x2C .bitAbs a rfl
theorem andAbs (a : Word) : Statement (.andAbs a) := words 0x2D .andAbs a rfl
theorem rolAbs (a : Word) : Statement (.rolAbs a) := words 0x2E .rolAbs a rfl
theorem rlaAbs (a : Word) : Statement (.rlaAbs a) := words 0x2F .rlaAbs a rfl
theorem bmi (a : Byte) : Statement (.bmi a) := (rfl : build (rowOf 0x30) [a] = some (.bmi a))
theorem andIzy (a : Byte) : Statement (.andIzy a) := (rfl : build (rowOf 0x31) [a] = some (.andIzy a))
theorem rlaIzy (a : Byte) : Statement (.rlaIzy a) := (rfl : build (rowOf 0x33) [a] = some (.rlaIzy a))
theorem nopZpx34 (a : Byte) : Statement (.nopZpx34 a) := (rfl : build (rowOf 0x34) [a] = some (.nopZpx34 a))
theorem andZpx (a : Byte) : Statement (.andZpx a) := (rfl : build (rowOf 0x35) [a] = some (.andZpx a))
theorem rolZpx (a : Byte) : Statement (.rolZpx a) := (rfl : build (rowOf 0x36) [a] = some (.rolZpx a))
theorem rlaZpx (a : Byte) : Statement (.rlaZpx a) := (rfl : build (rowOf 0x37) [a] = some (.rlaZpx a))
theorem andAbsy (a : Word) : Statement (.andAbsy a) := words 0x39 .andAbsy a rfl
theorem rlaAbsy (a : Word) : Statement (.rlaAbsy a) := words 0x3B .rlaAbsy a rfl
theorem nopAbsx3C (a : Word) : Statement (.nopAbsx3C a) := words 0x3C .nopAbsx3C a rfl
theorem andAbsx (a : Word) : Statement (.andAbsx a) := words 0x3D .andAbsx a rfl
theorem rolAbsx (a : Word) : Statement (.rolAbsx a) := words 0x3E .rolAbsx a rfl
theorem rlaAbsx (a : Word) : Statement (.rlaAbsx a) := words 0x3F .rlaAbsx a rfl
theorem eorIzx (a : Byte) : Statement (.eorIzx a) := (rfl : build (rowOf 0x41) [a] = some (.eorIzx a))
theorem sreIzx (a : Byte) : Statement (.sreIzx a) := (rfl : build (rowOf 0x43) [a] = some (.sreIzx a))
theorem nopZp44 (a : Byte) : Statement (.nopZp44 a) := (rfl : build (rowOf 0x44) [a] = some (.nopZp44 a))
theorem eorZp (a : Byte) : Statement (.eorZp a) := (rfl : build (rowOf 0x45) [a] = some (.eorZp a))
theorem lsrZp (a : Byte) : Statement (.lsrZp a) := (rfl : build (rowOf 0x46) [a] = some (.lsrZp a))
theorem sreZp (a : Byte) : Statement (.sreZp a) := (rfl : build (rowOf 0x47) [a] = some (.sreZp a))
theorem eorImm (a : Byte) : Statement (.eorImm a) := (rfl : build (rowOf 0x49) [a] = some (.eorImm a))
theorem jmpAbs (a : Word) : Statement (.jmpAbs a) := words 0x4C .jmpAbs a rfl
theorem eorAbs (a : Word) : Statement (.eorAbs a) := words 0x4D .eorAbs a rfl
theorem lsrAbs (a : Word) : Statement (.lsrAbs a) := words 0x4E .lsrAbs a rfl
theorem sreAbs (a : Word) : Statement (.sreAbs a) := words 0x4F .sreAbs a rfl
theorem bvc (a : Byte) : Statement (.bvc a) := (rfl : build (rowOf 0x50) [a] = some (.bvc a))
theorem eorIzy (a : Byte) : Statement (.eorIzy a) := (rfl : build (rowOf 0x51) [a] = some (.eorIzy a))
theorem sreIzy (a : Byte) : Statement (.sreIzy a) := (rfl : build (rowOf 0x53) [a] = some (.sreIzy a))
theorem nopZpx54 (a : Byte) : Statement (.nopZpx54 a) := (rfl : build (rowOf 0x54) [a] = some (.nopZpx54 a))
theorem eorZpx (a : Byte) : Statement (.eorZpx a) := (rfl : build (rowOf 0x55) [a] = some (.eorZpx a))
theorem lsrZpx (a : Byte) : Statement (.lsrZpx a) := (rfl : build (rowOf 0x56) [a] = some (.lsrZpx a))
theorem sreZpx (a : Byte) : Statement (.sreZpx a) := (rfl : build (rowOf 0x57) [a] = some (.sreZpx a))
theorem eorAbsy (a : Word) : Statement (.eorAbsy a) := words 0x59 .eorAbsy a rfl
theorem sreAbsy (a : Word) : Statement (.sreAbsy a) := words 0x5B .sreAbsy a rfl
theorem nopAbsx5C (a : Word) : Statement (.nopAbsx5C a) := words 0x5C .nopAbsx5C a rfl
theorem eorAbsx (a : Word) : Statement (.eorAbsx a) := words 0x5D .eorAbsx a rfl
theorem lsrAbsx (a : Word) : Statement (.lsrAbsx a) := words 0x5E .lsrAbsx a rfl
theorem sreAbsx (a : Word) : Statement (.sreAbsx a) := words 0x5F .sreAbsx a rfl
theorem adcIzx (a : Byte) : Statement (.adcIzx a) := (rfl : build (rowOf 0x61) [a] = some (.adcIzx a))
theorem rraIzx (a : Byte) : Statement (.rraIzx a) := (rfl : build (rowOf 0x63) [a] = some (.rraIzx a))
theorem nopZp64 (a : Byte) : Statement (.nopZp64 a) := (rfl : build (rowOf 0x64) [a] = some (.nopZp64 a))
theorem adcZp (a : Byte) : Statement (.adcZp a) := (rfl : build (rowOf 0x65) [a] = some (.adcZp a))
theorem rorZp (a : Byte) : Statement (.rorZp a) := (rfl : build (rowOf 0x66) [a] = some (.rorZp a))
theorem rraZp (a : Byte) : Statement (.rraZp a) := (rfl : build (rowOf 0x67) [a] = some (.rraZp a))
theorem adcImm (a : Byte) : Statement (.adcImm a) := (rfl : build (rowOf 0x69) [a] = some (.adcImm a))
theorem jmpInd (a : Word) : Statement (.jmpInd a) := words 0x6C .jmpInd a rfl
theorem adcAbs (a : Word) : Statement (.adcAbs a) := words 0x6D .adcAbs a rfl
theorem rorAbs (a : Word) : Statement (.rorAbs a) := words 0x6E .rorAbs a rfl
theorem rraAbs (a : Word) : Statement (.rraAbs a) := words 0x6F .rraAbs a rfl
theorem bvs (a : Byte) : Statement (.bvs a) := (rfl : build (rowOf 0x70) [a] = some (.bvs a))
theorem adcIzy (a : Byte) : Statement (.adcIzy a) := (rfl : build (rowOf 0x71) [a] = some (.adcIzy a))
theorem rraIzy (a : Byte) : Statement (.rraIzy a) := (rfl : build (rowOf 0x73) [a] = some (.rraIzy a))
theorem nopZpx74 (a : Byte) : Statement (.nopZpx74 a) := (rfl : build (rowOf 0x74) [a] = some (.nopZpx74 a))
theorem adcZpx (a : Byte) : Statement (.adcZpx a) := (rfl : build (rowOf 0x75) [a] = some (.adcZpx a))
theorem rorZpx (a : Byte) : Statement (.rorZpx a) := (rfl : build (rowOf 0x76) [a] = some (.rorZpx a))
theorem rraZpx (a : Byte) : Statement (.rraZpx a) := (rfl : build (rowOf 0x77) [a] = some (.rraZpx a))
theorem adcAbsy (a : Word) : Statement (.adcAbsy a) := words 0x79 .adcAbsy a rfl
theorem rraAbsy (a : Word) : Statement (.rraAbsy a) := words 0x7B .rraAbsy a rfl
theorem nopAbsx7C (a : Word) : Statement (.nopAbsx7C a) := words 0x7C .nopAbsx7C a rfl
theorem adcAbsx (a : Word) : Statement (.adcAbsx a) := words 0x7D .adcAbsx a rfl
theorem rorAbsx (a : Word) : Statement (.rorAbsx a) := words 0x7E .rorAbsx a rfl
theorem rraAbsx (a : Word) : Statement (.rraAbsx a) := words 0x7F .rraAbsx a rfl
theorem nopImm80 (a : Byte) : Statement (.nopImm80 a) := (rfl : build (rowOf 0x80) [a] = some (.nopImm80 a))
theorem staIzx (a : Byte) : Statement (.staIzx a) := (rfl : build (rowOf 0x81) [a] = some (.staIzx a))
theorem saxIzx (a : Byte) : Statement (.saxIzx a) := (rfl : build (rowOf 0x83) [a] = some (.saxIzx a))
theorem styZp (a : Byte) : Statement (.styZp a) := (rfl : build (rowOf 0x84) [a] = some (.styZp a))
theorem staZp (a : Byte) : Statement (.staZp a) := (rfl : build (rowOf 0x85) [a] = some (.staZp a))
theorem stxZp (a : Byte) : Statement (.stxZp a) := (rfl : build (rowOf 0x86) [a] = some (.stxZp a))
theorem saxZp (a : Byte) : Statement (.saxZp a) := (rfl : build (rowOf 0x87) [a] = some (.saxZp a))
theorem styAbs (a : Word) : Statement (.styAbs a) := words 0x8C .styAbs a rfl
theorem staAbs (a : Word) : Statement (.staAbs a) := words 0x8D .staAbs a rfl
theorem stxAbs (a : Word) : Statement (.stxAbs a) := words 0x8E .stxAbs a rfl
theorem saxAbs (a : Word) : Statement (.saxAbs a) := words 0x8F .saxAbs a rfl
theorem bcc (a : Byte) : Statement (.bcc a) := (rfl : build (rowOf 0x90) [a] = some (.bcc a))
theorem staIzy (a : Byte) : Statement (.staIzy a) := (rfl : build (rowOf 0x91) [a] = some (.staIzy a))
theorem styZpx (a : Byte) : Statement (.styZpx a) := (rfl : build (rowOf 0x94) [a] = some (.styZpx a))
theorem staZpx (a : Byte) : Statement (.staZpx a) := (rfl : build (rowOf 0x95) [a] = some (.staZpx a))
theorem stxZpy (a : Byte) : Statement (.stxZpy a) := (rfl : build (rowOf 0x96) [a] = some (.stxZpy a))
theorem saxZpy (a : Byte) : Statement (.saxZpy a) := (rfl : build (rowOf 0x97) [a] = some (.saxZpy a))
theorem staAbsy (a : Word) : Statement (.staAbsy a) := words 0x99 .staAbsy a rfl
theorem staAbsx (a : Word) : Statement (.staAbsx a) := words 0x9D .staAbsx a rfl
theorem ldyImm (a : Byte) : Statement (.ldyImm a) := (rfl : build (rowOf 0xA0) [a] = some (.ldyImm a))
theorem ldaIzx (a : Byte) : Statement (.ldaIzx a) := (rfl : build (rowOf 0xA1) [a] = some (.ldaIzx a))
theorem ldxImm (a : Byte) : Statement (.ldxImm a) := (rfl : build (rowOf 0xA2) [a] = some (.ldxImm a))
theorem laxIzx (a : Byte) : Statement (.laxIzx a) := (rfl : build (rowOf 0xA3) [a] = some (.laxIzx a))
theorem ldyZp (a : Byte) : Statement (.ldyZp a) := (rfl : build (rowOf 0xA4) [a] = some (.ldyZp a))
theorem ldaZp (a : Byte) : Statement (.ldaZp a) := (rfl : build (rowOf 0xA5) [a] = some (.ldaZp a))
theorem ldxZp (a : Byte) : Statement (.ldxZp a) := (rfl : build (rowOf 0xA6) [a] = some (.ldxZp a))
theorem laxZp (a : Byte) : Statement (.laxZp a) := (rfl : build (rowOf 0xA7) [a] = some (.laxZp a))
theorem ldaImm (a : Byte) : Statement (.ldaImm a) := (rfl : build (rowOf 0xA9) [a] = some (.ldaImm a))
theorem ldyAbs (a : Word) : Statement (.ldyAbs a) := words 0xAC .ldyAbs a rfl
theorem ldaAbs (a : Word) : Statement (.ldaAbs a) := words 0xAD .ldaAbs a rfl
theorem ldxAbs (a : Word) : Statement (.ldxAbs a) := words 0xAE .ldxAbs a rfl
theorem laxAbs (a : Word) : Statement (.laxAbs a) := words 0xAF .laxAbs a rfl
theorem bcs (a : Byte) : Statement (.bcs a) := (rfl : build (rowOf 0xB0) [a] = some (.bcs a))
theorem ldaIzy (a : Byte) : Statement (.ldaIzy a) := (rfl : build (rowOf 0xB1) [a] = some (.ldaIzy a))
theorem laxIzy (a : Byte) : Statement (.laxIzy a) := (rfl : build (rowOf 0xB3) [a] = some (.laxIzy a))
theorem ldyZpx (a : Byte) : Statement (.ldyZpx a) := (rfl : build (rowOf 0xB4) [a] = some (.ldyZpx a))
theorem ldaZpx (a : Byte) : Statement (.ldaZpx a) := (rfl : build (rowOf 0xB5) [a] = some (.ldaZpx a))
theorem ldxZpy (a : Byte) : Statement (.ldxZpy a) := (rfl : build (rowOf 0xB6) [a] = some (.ldxZpy a))
theorem laxZpy (a : Byte) : Statement (.laxZpy a) := (rfl : build (rowOf 0xB7) [a] = some (.laxZpy a))
theorem ldaAbsy (a : Word) : Statement (.ldaAbsy a) := words 0xB9 .ldaAbsy a rfl
theorem ldyAbsx (a : Word) : Statement (.ldyAbsx a) := words 0xBC .ldyAbsx a rfl
theorem ldaAbsx (a : Word) : Statement (.ldaAbsx a) := words 0xBD .ldaAbsx a rfl
theorem ldxAbsy (a : Word) : Statement (.ldxAbsy a) := words 0xBE .ldxAbsy a rfl
theorem laxAbsy (a : Word) : Statement (.laxAbsy a) := words 0xBF .laxAbsy a rfl
theorem cpyImm (a : Byte) : Statement (.cpyImm a) := (rfl : build (rowOf 0xC0) [a] = some (.cpyImm a))
theorem cmpIzx (a : Byte) : Statement (.cmpIzx a) := (rfl : build (rowOf 0xC1) [a] = some (.cmpIzx a))
theorem dcpIzx (a : Byte) : Statement (.dcpIzx a) := (rfl : build (rowOf 0xC3) [a] = some (.dcpIzx a))
theorem cpyZp (a : Byte) : Statement (.cpyZp a) := (rfl : build (rowOf 0xC4) [a] = some (.cpyZp a))
theorem cmpZp (a : Byte) : Statement (.cmpZp a) := (rfl : build (rowOf 0xC5) [a] = some (.cmpZp a))
theorem decZp (a : Byte) : Statement (.decZp a) := (rfl : build (rowOf 0xC6) [a] = some (.decZp a))
theorem dcpZp (a : Byte) : Statement (.dcpZp a) := (rfl : build (rowOf 0xC7) [a] = some (.dcpZp a))
theorem cmpImm (a : Byte) : Statement (.cmpImm a) := (rfl : build (rowOf 0xC9) [a] = some (.cmpImm a))
theorem cpyAbs (a : Word) : Statement (.cpyAbs a) := words 0xCC .cpyAbs a rfl
theorem cmpAbs (a : Word) : Statement (.cmpAbs a) := words 0xCD .cmpAbs a rfl
theorem decAbs (a : Word) : Statement (.decAbs a) := words 0xCE .decAbs a rfl
theorem dcpAbs (a : Word) : Statement (.dcpAbs a) := words 0xCF .dcpAbs a rfl
theorem bne (a : Byte) : Statement (.bne a) := (rfl : build (rowOf 0xD0) [a] = some (.bne a))
theorem cmpIzy (a : Byte) : Statement (.cmpIzy a) := (rfl : build (rowOf 0xD1) [a] = some (.cmpIzy a))
theorem dcpIzy (a : Byte) : Statement (.dcpIzy a) := (rfl : build (rowOf 0xD3) [a] = some (.dcpIzy a))
theorem nopZpxD4 (a : Byte) : Statement (.nopZpxD4 a) := (rfl : build (rowOf 0xD4) [a] = some (.nopZpxD4 a))
theorem cmpZpx (a : Byte) : Statement (.cmpZpx a) := (rfl : build (rowOf 0xD5) [a] = some (.cmpZpx a))
theorem decZpx (a : Byte) : Statement (.decZpx a) := (rfl : build (rowOf 0xD6) [a] = some (.decZpx a))
theorem dcpZpx (a : Byte) : Statement (.dcpZpx a) := (rfl : build (rowOf 0xD7) [a] = some (.dcpZpx a))
theorem cmpAbsy (a : Word) : Statement (.cmpAbsy a) := words 0xD9 .cmpAbsy a rfl
theorem dcpAbsy (a : Word) : Statement (.dcpAbsy a) := words 0xDB .dcpAbsy a rfl
theorem nopAbsxDC (a : Word) : Statement (.nopAbsxDC a) := words 0xDC .nopAbsxDC a rfl
theorem cmpAbsx (a : Word) : Statement (.cmpAbsx a) := words 0xDD .cmpAbsx a rfl
theorem decAbsx (a : Word) : Statement (.decAbsx a) := words 0xDE .decAbsx a rfl
theorem dcpAbsx (a : Word) : Statement (.dcpAbsx a) := words 0xDF .dcpAbsx a rfl
theorem cpxImm (a : Byte) : Statement (.cpxImm a) := (rfl : build (rowOf 0xE0) [a] = some (.cpxImm a))
theorem sbcIzx (a : Byte) : Statement (.sbcIzx a) := (rfl : build (rowOf 0xE1) [a] = some (.sbcIzx a))
theorem isbIzx (a : Byte) : Statement (.isbIzx a) := (rfl : build (rowOf 0xE3) [a] = some (.isbIzx a))
theorem cpxZp (a : Byte) : Statement (.cpxZp a) := (rfl : build (rowOf 0xE4) [a] = some (.cpxZp a))
theorem sbcZp (a : Byte) : Statement (.sbcZp a) := (rfl : build (rowOf 0xE5) [a] = some (.sbcZp a))
theorem incZp (a : Byte) : Statement (.incZp a) := (rfl : build (rowOf 0xE6) [a] = some (.incZp a))
theorem isbZp (a : Byte) : Statement (.isbZp a) := (rfl : build (rowOf 0xE7) [a] = some (.isbZp a))
theorem sbcImm (a : Byte) : Statement (.sbcImm a) := (rfl : build (rowOf 0xE9) [a] = some (.sbcImm a))
theorem sbcImmEB (a : Byte) : Statement (.sbcImmEB a) := (rfl : build (rowOf 0xEB) [a] = some (.sbcImmEB a))
theorem cpxAbs (a : Word) : Statement (.cpxAbs a) := words 0xEC .cpxAbs a rfl
theorem sbcAbs (a : Word) : Statement (.sbcAbs a) := words 0xED .sbcAbs a rfl
theorem incAbs (a : Word) : Statement (.incAbs a) := words 0xEE .incAbs a rfl
theorem isbAbs (a : Word) : Statement (.isbAbs a) := words 0xEF .isbAbs a rfl
theorem beq (a : Byte) : Statement (.beq a) := (rfl : build (rowOf 0xF0) [a] = some (.beq a))
theorem sbcIzy (a : Byte) : Statement (.sbcIzy a) := (rfl : build (rowOf 0xF1) [a] = some (.sbcIzy a))
theorem isbIzy (a : Byte) : Statement (.isbIzy a) := (rfl : build (rowOf 0xF3) [a] = some (.isbIzy a))
theorem nopZpxF4 (a : Byte) : Statement (.nopZpxF4 a) := (rfl : build (rowOf 0xF4) [a] = some (.nopZpxF4 a))
theorem sbcZpx (a : Byte) : Statement (.sbcZpx a) := (rfl : build (rowOf 0xF5) [a] = some (.sbcZpx a))
theorem incZpx (a : Byte) : Statement (.incZpx a) := (rfl : build (rowOf 0xF6) [a] = some (.incZpx a))
theorem isbZpx (a : Byte) : Statement (.isbZpx a) := (rfl : build (rowOf 0xF7) [a] = some (.isbZpx a))
theorem sbcAbsy (a : Word) : Statement (.sbcAbsy a) := words 0xF9 .sbcAbsy a rfl
theorem isbAbsy (a : Word) : Statement (.isbAbsy a) := words 0xFB .isbAbsy a rfl
theorem nopAbsxFC (a : Word) : Statement (.nopAbsxFC a) := words 0xFC .nopAbsxFC a rfl
theorem sbcAbsx (a : Word) : Statement (.sbcAbsx a) := words 0xFD .sbcAbsx a rfl
theorem incAbsx (a : Word) : Statement (.incAbsx a) := words 0xFE .incAbsx a rfl
theorem isbAbsx (a : Word) : Statement (.isbAbsx a) := words 0xFF .isbAbsx a rfl
theorem brk : Statement .brk := (rfl : build (rowOf 0x00) [] = some .brk)
theorem php : Statement .php := (rfl : build (rowOf 0x08) [] = some .php)
theorem aslAcc : Statement .aslAcc := (rfl : build (rowOf 0x0A) [] = some .aslAcc)
theorem clc : Statement .clc := (rfl : build (rowOf 0x18) [] = some .clc)
theorem nopImp1A : Statement .nopImp1A := (rfl : build (rowOf 0x1A) [] = some .nopImp1A)
theorem plp : Statement .plp := (rfl : build (rowOf 0x28) [] = some .plp)
theorem rolAcc : Statement .rolAcc := (rfl : build (rowOf 0x2A) [] = some .rolAcc)
theorem sec : Statement .sec := (rfl : build (rowOf 0x38) [] = some .sec)
theorem nopImp3A : Statement .nopImp3A := (rfl : build (rowOf 0x3A) [] = some .nopImp3A)
theorem rti : Statement .rti := (rfl : build (rowOf 0x40) [] = some .rti)
theorem pha : Statement .pha := (rfl : build (rowOf 0x48) [] = some .pha)
theorem lsrAcc : Statement .lsrAcc := (rfl : build (rowOf 0x4A) [] = some .lsrAcc)
theorem cli : Statement .cli := (rfl : build (rowOf 0x58) [] = some .cli)
theorem nopImp5A : Statement .nopImp5A := (rfl : build (rowOf 0x5A) [] = some .nopImp5A)
theorem rts : Statement .rts := (rfl : build (rowOf 0x60) [] = some .rts)
theorem pla : Statement .pla := (rfl : build (rowOf 0x68) [] = some .pla)
theorem rorAcc : Statement .rorAcc := (rfl : build (rowOf 0x6A) [] = some .rorAcc)
theorem sei : Statement .sei := (rfl : build (rowOf 0x78) [] = some .sei)
theorem nopImp7A : Statement .nopImp7A := (rfl : build (rowOf 0x7A) [] = some .nopImp7A)
theorem dey : Statement .dey := (rfl : build (rowOf 0x88) [] = some .dey)
theorem txa : Statement .txa := (rfl : build (rowOf 0x8A) [] = some .txa)
theorem tya : Statement .tya := (rfl : build (rowOf 0x98) [] = some .tya)
theorem txs : Statement .txs := (rfl : build (rowOf 0x9A) [] = some .txs)
theorem tay : Statement .tay := (rfl : build (rowOf 0xA8) [] = some .tay)
theorem tax : Statement .tax := (rfl : build (rowOf 0xAA) [] = some .tax)
theorem clv : Statement .clv := (rfl : build (rowOf 0xB8) [] = some .clv)
theorem tsx : Statement .tsx := (rfl : build (rowOf 0xBA) [] = some .tsx)
theorem iny : Statement .iny := (rfl : build (rowOf 0xC8) [] = some .iny)
theorem dex : Statement .dex := (rfl : build (rowOf 0xCA) [] = some .dex)
theorem cld : Statement .cld := (rfl : build (rowOf 0xD8) [] = some .cld)
theorem nopImpDA : Statement .nopImpDA := (rfl : build (rowOf 0xDA) [] = some .nopImpDA)
theorem inx : Statement .inx := (rfl : build (rowOf 0xE8) [] = some .inx)
theorem nopImp : Statement .nopImp := (rfl : build (rowOf 0xEA) [] = some .nopImp)
theorem sed : Statement .sed := (rfl : build (rowOf 0xF8) [] = some .sed)
theorem nopImpFA : Statement .nopImpFA := (rfl : build (rowOf 0xFA) [] = some .nopImpFA)
theorem unknown02 : Statement .unknown02 := (rfl : build (rowOf 0x02) [] = some .unknown02)
theorem unknown0B : Statement .unknown0B := (rfl : build (rowOf 0x0B) [] = some .unknown0B)
theorem unknown12 : Statement .unknown12 := (rfl : build (rowOf 0x12) [] = some .unknown12)
theorem unknown22 : Statement .unknown22 := (rfl : build (rowOf 0x22) [] = some .unknown22)
theorem unknown2B : Statement .unknown2B := (rfl : build (rowOf 0x2B) [] = some .unknown2B)
theorem unknown32 : Statement .unknown32 := (rfl : build (rowOf 0x32) [] = some .unknown32)
theorem unknown42 : Statement .unknown42 := (rfl : build (rowOf 0x42) [] = some .unknown42)
theorem unknown4B : Statement .unknown4B := (rfl : build (rowOf 0x4B) [] = some .unknown4B)
theorem unknown52 : Statement .unknown52 := (rfl : build (rowOf 0x52) [] = some .unknown52)
theorem unknown62 : Statement .unknown62 := (rfl : build (rowOf 0x62) [] = some .unknown62)
theorem unknown6B : Statement .unknown6B := (rfl : build (rowOf 0x6B) [] = some .unknown6B)
theorem unknown72 : Statement .unknown72 := (rfl : build (rowOf 0x72) [] = some .unknown72)
theorem unknown82 : Statement .unknown82 := (rfl : build (rowOf 0x82) [] = some .unknown82)
theorem unknown89 : Statement .unknown89 := (rfl : build (rowOf 0x89) [] = some .unknown89)
theorem unknown8B : Statement .unknown8B := (rfl : build (rowOf 0x8B) [] = some .unknown8B)
theorem unknown92 : Statement .unknown92 := (rfl : build (rowOf 0x92) [] = some .unknown92)
theorem unknown93 : Statement .unknown93 := (rfl : build (rowOf 0x93) [] = some .unknown93)
theorem unknown9B : Statement .unknown9B := (rfl : build (rowOf 0x9B) [] = some .unknown9B)
theorem unknown9C : Statement .unknown9C := (rfl : build (rowOf 0x9C) [] = some .unknown9C)
theorem unknown9E : Statement .unknown9E := (rfl : build (rowOf 0x9E) [] = some .unknown9E)
theorem unknown9F : Statement .unknown9F := (rfl : build (rowOf 0x9F) [] = some .unknown9F)
theorem unknownAB : Statement .unknownAB := (rfl : build (rowOf 0xAB) [] = some .unknownAB)
theorem unknownB2 : Statement .unknownB2 := (rfl : build (rowOf 0xB2) [] = some .unknownB2)
theorem unknownBB : Statement .unknownBB := (rfl : build (rowOf 0xBB) [] = some .unknownBB)
theorem unknownC2 : Statement .unknownC2 := (rfl : build (rowOf 0xC2) [] = some .unknownC2)
theorem unknownCB : Statement .unknownCB := (rfl : build (rowOf 0xCB) [] = some .unknownCB)
theorem unknownD2 : Statement .unknownD2 := (rfl : build (rowOf 0xD2) [] = some .unknownD2)
theorem unknownE2 : Statement .unknownE2 := (rfl : build (rowOf 0xE2) [] = some .unknownE2)
theorem unknownF2 : Statement .unknownF2 := (rfl : build (rowOf 0xF2) [] = some .unknownF2)

end Sys2Proof.Laws.RowReads
end

