-- ==== Sys2Proof/Laws/Ppu.lean ====
section
/-! SUPPORT. The dot: what each stage leaves alone, and the invariant through a dot. -/

namespace Sys2Proof.Machine

/-! ## Stages that only write pipeline registers -/

theorem Ppu.Inv.clearFlags {p : Ppu} (h : p.Inv) : p.clearFlags.Inv :=
  ⟨h.scanline_low, h.scanline_high, h.dot_high, Nat.zero_le _, h.sprCount_high, h.oam, h.secOam⟩

theorem State.Inv.vblankStart {s : State} (h : s.Inv) : s.vblankStart.Inv := by
  have h1 : State.Inv { s with ppu.vbl := true } := h.withPpu (h.ppu.of_eq rfl rfl rfl rfl rfl rfl)
  unfold State.vblankStart
  split
  · exact h
  · dsimp only
    split
    · exact h1.signalNmi
    · exact h1

theorem State.Inv.flagEvents {s : State} (h : s.Inv) : s.flagEvents.Inv := by
  unfold State.flagEvents
  split
  · exact h.withPpu h.ppu.clearFlags
  · split
    · exact h.vblankStart
    · exact h

/-- A stage of the pixel pipelines that keeps the counters, the position and the OAM. -/
theorem Ppu.Inv.shiftStage {p : Ppu} (h : p.Inv) : p.shiftStage.Inv := by
  unfold Ppu.shiftStage
  dsimp only
  split <;> split <;> exact h.of_eq rfl rfl rfl rfl rfl rfl

theorem State.Inv.fetchInto {s : State} (h : s.Inv) (a : BitVec 14) (f : Ppu → Byte → Ppu)
    (hf : ∀ (p : Ppu) (b : Byte), p.Inv → (f p b).Inv) : (s.fetchInto a f).Inv :=
  (h.afterPpuRead a).withPpu (hf _ _ (h.afterPpuRead a).ppu)

theorem State.Inv.fetchPhase {s : State} (h : s.Inv) (d : Nat) : (s.fetchPhase d).Inv := by
  unfold State.fetchPhase
  split
  · exact h.fetchInto _ _ (fun p b hp => hp.of_eq rfl rfl rfl rfl rfl rfl)
  · exact h.fetchInto _ _ (fun p b hp => hp.of_eq rfl rfl rfl rfl rfl rfl)
  · exact h.fetchInto _ _ (fun p b hp => hp.of_eq rfl rfl rfl rfl rfl rfl)
  · exact h.fetchInto _ _ (fun p b hp => hp.of_eq rfl rfl rfl rfl rfl rfl)
  · exact h.withPpu (h.ppu.of_eq rfl rfl rfl rfl rfl rfl)
  · exact h

theorem State.Inv.backgroundStage {s : State} (h : s.Inv) : s.backgroundStage.Inv := by
  unfold State.backgroundStage
  split
  · exact h.fetchPhase _
  · split
    · exact h.afterPpuRead _
    · exact h

theorem Ppu.Inv.scrollStage {p : Ppu} (h : p.Inv) : p.scrollStage.Inv := by
  unfold Ppu.scrollStage
  repeat' split
  all_goals exact h.of_eq rfl rfl rfl rfl rfl rfl

/-! ## Sprite evaluation -/

/-- The evaluation keeps at most eight sprites, all inside secondary OAM. -/
theorem Evaluation.entry_inv {s : Int} {h : Nat} {oam : Memory} {e : Evaluation} (i : Nat) (hc : e.count ≤ 8)
    (hm : e.secOam.Inv 32) :
    (e.entry s h oam i).count ≤ 8 ∧ (e.entry s h oam i).secOam.Inv 32 := by
  unfold Evaluation.entry
  split
  · split
    · next hlt =>
      refine ⟨hlt, ?_⟩
      unfold copyEntry
      exact (((hm.write _ (by omega)).write _ (by omega)).write _ (by omega)).write _ (by omega)
    · exact ⟨hc, hm⟩
  · exact ⟨hc, hm⟩

theorem evaluation_foldl_inv {s : Int} {h : Nat} {oam : Memory} (l : List Nat) (e : Evaluation) (hc : e.count ≤ 8)
    (hm : e.secOam.Inv 32) :
    (l.foldl (Evaluation.entry s h oam) e).count ≤ 8 ∧ (l.foldl (Evaluation.entry s h oam) e).secOam.Inv 32 := by
  induction l generalizing e with
  | nil => exact ⟨hc, hm⟩
  | cons i l ih => exact ih _ (Evaluation.entry_inv i hc hm).1 (Evaluation.entry_inv i hc hm).2

theorem Ppu.Inv.evaluate {p : Ppu} (h : p.Inv) : p.evaluate.Inv := by
  have he := evaluation_foldl_inv (s := p.scanline) (h := p.spriteHeight) (oam := p.oam) (List.range 64)
    ⟨0, p.secOam, false, p.overflow⟩ (Nat.zero_le _) h.secOam
  exact ⟨h.scanline_low, h.scanline_high, h.dot_high, he.1, h.sprCount_high, h.oam, he.2⟩

theorem Ppu.Inv.clearSecOam {p : Ppu} (h : p.Inv) : p.clearSecOam.Inv := by
  have hs := h.secOam.fill 0xFF 32 0 (by decide)
  unfold Ppu.clearSecOam
  generalize p.secOam.fill 0 32 0xFF = m at hs ⊢
  exact ⟨h.scanline_low, h.scanline_high, h.dot_high, h.secCount_high, h.sprCount_high, h.oam, hs⟩

theorem Ppu.Inv.evaluateStage {p : Ppu} (h : p.Inv) : p.evaluateStage.Inv := by
  unfold Ppu.evaluateStage
  split
  · exact h.clearSecOam
  · split
    · exact h.evaluate
    · split
      · exact ⟨h.scanline_low, h.scanline_high, h.dot_high, h.secCount_high, h.secCount_high, h.oam, h.secOam⟩
      · exact h

/-! ## Sprite fetches, the pixel, the next position -/

theorem Ppu.Inv.loadSlot {p : Ppu} (h : p.Inv) (i : Nat) (lo hi : Byte) : (p.loadSlot i lo hi).Inv := by
  unfold Ppu.loadSlot
  dsimp only
  split
  · split <;> exact h.of_eq rfl rfl rfl rfl rfl rfl
  · exact h

theorem State.Inv.loadSprite {s : State} (h : s.Inv) (i : Nat) : (s.loadSprite i).Inv := by
  have h1 := h.afterPpuRead (s.ppu.sprAddr i + 8)
  unfold State.loadSprite
  exact ⟨h1.cpu, h1.ppu.loadSlot _ _ _, h1.cart, h1.ram, h1.vram, h1.shift1_high, h1.shift2_high⟩

theorem State.Inv.spriteStage {s : State} (h : s.Inv) : s.spriteStage.Inv := by
  unfold State.spriteStage
  split
  · unfold State.spriteFetch
    dsimp only
    split
    · exact h.afterPpuRead _
    · exact h.afterPpuRead _
    · exact h.fetchInto _ _ (fun p b hp => hp.of_eq rfl rfl rfl rfl rfl rfl)
    · exact h.loadSprite _
    · exact h
  · exact h

theorem State.Inv.renderStages {s : State} (h : s.Inv) : s.renderStages.Inv := by
  unfold State.renderStages
  have h2 : State.Inv (State.backgroundStage { s with ppu := s.ppu.shiftStage }) :=
    (h.withPpu h.ppu.shiftStage).backgroundStage
  exact (h2.withPpu h2.ppu.scrollStage.evaluateStage).spriteStage

theorem State.Inv.pixelStage {s : State} (h : s.Inv) : s.pixelStage.Inv := by
  unfold State.pixelStage
  split
  · split
    · exact ⟨h.cpu, h.ppu.of_eq rfl rfl rfl rfl rfl rfl, h.cart, h.ram, h.vram, h.shift1_high, h.shift2_high⟩
    · exact ⟨h.cpu, h.ppu, h.cart, h.ram, h.vram, h.shift1_high, h.shift2_high⟩
  · exact ⟨h.cpu, h.ppu, h.cart, h.ram, h.vram, h.shift1_high, h.shift2_high⟩

theorem Ppu.Inv.expireLatch {p : Ppu} (h : p.Inv) : p.expireLatch.Inv := by
  unfold Ppu.expireLatch
  split
  · exact h.of_eq rfl rfl rfl rfl rfl rfl
  · exact h

/-- The four ways a dot can end (R1105): the odd-frame skip, the next dot, the next line, the next frame. -/
theorem Ppu.advance_cases (p : Ppu) :
    (p.scanline = -1 ∧ p.dot = 339 ∧ p.frame % 2 = 1 ∧ p.renderingEnabled = true ∧
      p.advance = { p with scanline := 0, dot := 0 }) ∨
    (p.dot + 1 ≠ 341 ∧ p.advance = { p with dot := p.dot + 1 }) ∨
    (p.dot = 340 ∧ p.scanline + 1 ≠ 261 ∧ p.advance = { p with dot := 0, scanline := p.scanline + 1 }) ∨
    (p.dot = 340 ∧ p.scanline = 260 ∧
      p.advance = { p with dot := 0, scanline := -1, frame := p.frame + 1 }.decayOpenBus) := by
  unfold Ppu.advance
  split
  · next h => exact .inl ⟨h.1, h.2.1, h.2.2.1, h.2.2.2, rfl⟩
  · split
    · next h => exact .inr (.inl ⟨h, rfl⟩)
    · next h1 =>
      split
      · next h => exact .inr (.inr (.inl ⟨by omega, h, rfl⟩))
      · next h => exact .inr (.inr (.inr ⟨by omega, by omega, rfl⟩))

theorem Ppu.Inv.advance {p : Ppu} (h : p.Inv) : p.advance.Inv := by
  have hl := h.scanline_low
  have hh := h.scanline_high
  have hd := h.dot_high
  rcases p.advance_cases with ⟨_, _, _, _, e⟩ | ⟨hn, e⟩ | ⟨_, hn, e⟩ | ⟨_, _, e⟩ <;> rw [e]
  · exact ⟨(by decide : (-1 : Int) ≤ 0), (by decide : (0 : Int) ≤ 260), Nat.zero_le _, h.secCount_high,
      h.sprCount_high, h.oam, h.secOam⟩
  · exact ⟨hl, hh, (by omega : p.dot + 1 ≤ 340), h.secCount_high, h.sprCount_high, h.oam, h.secOam⟩
  · exact ⟨(by omega : -1 ≤ p.scanline + 1), (by omega : p.scanline + 1 ≤ 260), Nat.zero_le _, h.secCount_high,
      h.sprCount_high, h.oam, h.secOam⟩
  · exact ⟨Int.le_refl _, (by decide : (-1 : Int) ≤ 260), Nat.zero_le _, h.secCount_high, h.sprCount_high, h.oam,
      h.secOam⟩

/-- A dot keeps the invariant. -/
theorem State.Inv.ppuStep {s : State} (h : s.Inv) : s.ppuStep.Inv := by
  have h1 := h.flagEvents
  unfold State.ppuStep
  dsimp only
  generalize s.flagEvents = t at h1 ⊢
  have h2 : State.Inv (if t.ppu.renderLine && t.ppu.renderingEnabled then t.renderStages else t) := by
    split
    · exact h1.renderStages
    · exact h1
  have h3 := h2.pixelStage
  exact h3.withPpu h3.ppu.expireLatch.advance

/-! ## What a dot leaves of the CPU and the bus -/

theorem fetchInto_eq (s : State) (a : BitVec 14) (f : Ppu → Byte → Ppu) :
    s.fetchInto a f = { s with ppu := (s.fetchInto a f).ppu, cart := (s.fetchInto a f).cart } := by
  unfold State.fetchInto
  dsimp only
  rw [afterPpuRead_eq]

theorem fetchPhase_eq (s : State) (d : Nat) :
    s.fetchPhase d = { s with ppu := (s.fetchPhase d).ppu, cart := (s.fetchPhase d).cart } := by
  unfold State.fetchPhase
  split
  · rw [fetchInto_eq]
  · rw [fetchInto_eq]
  · rw [fetchInto_eq]
  · rw [fetchInto_eq]
  · rfl
  · rfl

theorem backgroundStage_eq (s : State) :
    s.backgroundStage = { s with ppu := s.backgroundStage.ppu, cart := s.backgroundStage.cart } := by
  unfold State.backgroundStage
  split
  · rw [fetchPhase_eq]
  · split
    · rw [afterPpuRead_eq]
    · rfl

theorem loadSprite_eq (s : State) (i : Nat) :
    s.loadSprite i =
      { s with
        ppu := (s.loadSprite i).ppu
        cart := (s.loadSprite i).cart
        freeCount := (s.loadSprite i).freeCount } := by
  unfold State.loadSprite
  dsimp only
  rw [afterPpuRead_eq]

theorem spriteStage_eq (s : State) :
    s.spriteStage =
      { s with
        ppu := s.spriteStage.ppu
        cart := s.spriteStage.cart
        freeCount := s.spriteStage.freeCount } := by
  unfold State.spriteStage
  split
  · unfold State.spriteFetch
    dsimp only
    split
    · rw [afterPpuRead_eq]
    · rw [afterPpuRead_eq]
    · rw [fetchInto_eq]
    · rw [loadSprite_eq]
    · rfl
  · rfl

theorem renderStages_eq (s : State) :
    s.renderStages =
      { s with
        ppu := s.renderStages.ppu
        cart := s.renderStages.cart
        freeCount := s.renderStages.freeCount } := by
  unfold State.renderStages
  dsimp only
  rw [spriteStage_eq, backgroundStage_eq]

theorem pixelStage_eq (s : State) : s.pixelStage = { s with ppu := s.pixelStage.ppu, pixel := s.pixelStage.pixel } := by
  unfold State.pixelStage
  split
  · split <;> rfl
  · rfl

theorem flagEvents_eq (s : State) :
    s.flagEvents = { s with ppu := s.flagEvents.ppu, cpu.nmiPending := s.flagEvents.cpu.nmiPending } := by
  unfold State.flagEvents
  split
  · rfl
  · split
    · unfold State.vblankStart
      split
      · rfl
      · dsimp only
        split
        · rw [signalNmi_eq]
        · rfl
    · rfl

/-- Everything a dot can change: the PPU, the mapper's private state, the pixel, the count of free values, and the NMI
latch. -/
theorem ppuStep_eq (s : State) :
    s.ppuStep =
      { s with
        ppu := s.ppuStep.ppu
        cart := s.ppuStep.cart
        pixel := s.ppuStep.pixel
        freeCount := s.ppuStep.freeCount
        cpu.nmiPending := s.ppuStep.cpu.nmiPending } := by
  unfold State.ppuStep
  dsimp only
  rw [pixelStage_eq]
  split
  · rw [renderStages_eq, flagEvents_eq]
  · rw [flagEvents_eq]

end Sys2Proof.Machine
end

