-- ==== Sys2Proof/Laws/Pipeline.lean ====
section
/-! SUPPORT. The dot, field by field: which fields of the PPU each stage can change, and where each field's value after
a dot comes from. A proof about a pipeline register cites the one stage that writes it. -/

namespace Sys2Proof.Machine

/-! ## What a PPU-side read depends on -/

/-- A PPU-side read depends on the palette, the cartridge and console VRAM alone. -/
theorem ppuRead_congr {s t : State} (a : BitVec 14) (hp : t.ppu.palette = s.ppu.palette) (hc : t.cart = s.cart)
    (hv : t.vram = s.vram) : t.ppuRead a = s.ppuRead a := by
  simp only [State.ppuRead, Ppu.paletteEntry, State.vramTarget, hp, hc, hv]

/-- What a PPU-side read leaves of the cartridge depends on the cartridge and the filter parameter alone. -/
theorem afterPpuRead_cart_congr {s t : State} (a : BitVec 14) (hc : t.cart = s.cart) (hq : t.params = s.params) :
    (t.afterPpuRead a).cart = (s.afterPpuRead a).cart := by
  unfold State.afterPpuRead
  split
  · exact hc
  · simp only [State.snoopPpuBus, hc, hq]

@[simp] theorem afterPpuRead_ppu (s : State) (a : BitVec 14) : (s.afterPpuRead a).ppu = s.ppu := by rw [afterPpuRead_eq]
@[simp] theorem afterPpuRead_vram (s : State) (a : BitVec 14) : (s.afterPpuRead a).vram = s.vram := by
  rw [afterPpuRead_eq]
@[simp] theorem afterPpuRead_params (s : State) (a : BitVec 14) : (s.afterPpuRead a).params = s.params := by
  rw [afterPpuRead_eq]

/-! ## The fields that each stage writes -/

/-- The flag events write only flags and the evaluation's results. -/
theorem flagEvents_ppu (s : State) :
    s.flagEvents.ppu =
      { s.ppu with
        vbl := s.flagEvents.ppu.vbl
        sprite0Hit := s.flagEvents.ppu.sprite0Hit
        overflow := s.flagEvents.ppu.overflow
        vblSuppress := s.flagEvents.ppu.vblSuppress
        secCount := s.flagEvents.ppu.secCount
        secHasZero := s.flagEvents.ppu.secHasZero } := by
  unfold State.flagEvents
  split
  · rfl
  · split
    · unfold State.vblankStart
      split
      · rfl
      · dsimp only
        split
        · rw [signalNmi_eq]
        · rfl
    · rfl

/-- Away from (-1, 1) and (241, 1) there is no flag event. -/
theorem flagEvents_of_ne {s : State} (h1 : ¬ (s.ppu.scanline = -1 ∧ s.ppu.dot = 1))
    (h2 : ¬ (s.ppu.scanline = 241 ∧ s.ppu.dot = 1)) : s.flagEvents = s := by
  unfold State.flagEvents
  rw [if_neg h1, if_neg h2]

/-- The shift stage writes only the four shift registers. -/
theorem Ppu.shiftStage_eq (p : Ppu) :
    p.shiftStage =
      { p with
        bgPatLo := p.shiftStage.bgPatLo
        bgPatHi := p.shiftStage.bgPatHi
        bgAttrLo := p.shiftStage.bgAttrLo
        bgAttrHi := p.shiftStage.bgAttrHi } := by
  unfold Ppu.shiftStage
  dsimp only
  split <;> split <;> rfl

/-- The background stage writes only the four latches and v. -/
theorem backgroundStage_ppu (s : State) :
    s.backgroundStage.ppu =
      { s.ppu with
        ntNext := s.backgroundStage.ppu.ntNext
        atNext := s.backgroundStage.ppu.atNext
        patLoNext := s.backgroundStage.ppu.patLoNext
        patHiNext := s.backgroundStage.ppu.patHiNext
        v := s.backgroundStage.ppu.v } := by
  unfold State.backgroundStage
  split
  · unfold State.fetchPhase State.fetchInto
    dsimp only
    split <;> simp only [afterPpuRead_ppu]
  · split
    · rw [afterPpuRead_ppu]
    · rfl

/-- The scroll stage writes only v. -/
theorem Ppu.scrollStage_eq (p : Ppu) : p.scrollStage = { p with v := p.scrollStage.v } := by
  unfold Ppu.scrollStage
  repeat' split
  all_goals rfl

/-- The evaluation stage writes only secondary OAM, the evaluation's results and the loaded counts. -/
theorem Ppu.evaluateStage_eq (p : Ppu) :
    p.evaluateStage =
      { p with
        secOam := p.evaluateStage.secOam
        secCount := p.evaluateStage.secCount
        secHasZero := p.evaluateStage.secHasZero
        overflow := p.evaluateStage.overflow
        sprCount := p.evaluateStage.sprCount
        sprZeroInLine := p.evaluateStage.sprZeroInLine } := by
  unfold Ppu.evaluateStage Ppu.clearSecOam Ppu.evaluate Ppu.startSprites
  generalize p.secOam.fill 0 32 0xFF = m
  generalize p.evaluation = e
  split
  · rfl
  · split
    · rfl
    · split <;> rfl

/-- A slot's load writes only the slots. -/
theorem Ppu.loadSlot_eq (p : Ppu) (i : Nat) (lo hi : Byte) :
    p.loadSlot i lo hi = { p with slots := (p.loadSlot i lo hi).slots } := by
  unfold Ppu.loadSlot
  dsimp only
  split
  · split <;> rfl
  · rfl

/-- The sprite stage writes only the slots and the low byte in flight. -/
theorem spriteStage_ppu (s : State) :
    s.spriteStage.ppu =
      { s.ppu with slots := s.spriteStage.ppu.slots, sprLoLatch := s.spriteStage.ppu.sprLoLatch } := by
  unfold State.spriteStage
  split
  · unfold State.spriteFetch State.fetchInto State.loadSprite
    dsimp only
    split
    · rw [afterPpuRead_ppu]
    · rw [afterPpuRead_ppu]
    · simp only [afterPpuRead_ppu]
    · simp only [afterPpuRead_ppu]
      rw [Ppu.loadSlot_eq]
    · rfl
  · rfl

/-- The pixel stage writes only sprite-0 hit. -/
theorem pixelStage_ppu (s : State) : s.pixelStage.ppu = { s.ppu with sprite0Hit := s.pixelStage.ppu.sprite0Hit } := by
  unfold State.pixelStage
  split
  · split <;> rfl
  · rfl

@[simp] theorem pixelStage_cart (s : State) : s.pixelStage.cart = s.cart := by rw [pixelStage_eq]
@[simp] theorem pixelStage_cpu (s : State) : s.pixelStage.cpu = s.cpu := by rw [pixelStage_eq]

/-- The end of a dot writes only the low byte in flight, the position and the open-bus latch. -/
theorem Ppu.endOfDot_eq (p : Ppu) :
    p.expireLatch.advance =
      { p with
        sprLoLatch := p.expireLatch.sprLoLatch
        scanline := p.expireLatch.advance.scanline
        dot := p.expireLatch.advance.dot
        frame := p.expireLatch.advance.frame
        openBus := p.expireLatch.advance.openBus
        openBusAge := p.expireLatch.advance.openBusAge } := by
  have he : p.expireLatch = { p with sprLoLatch := p.expireLatch.sprLoLatch } := by
    unfold Ppu.expireLatch
    split <;> rfl
  generalize p.expireLatch = q at he ⊢
  rcases q.advance_cases with ⟨_, _, _, _, e⟩ | ⟨_, e⟩ | ⟨_, _, e⟩ | ⟨_, _, e⟩ <;> rw [e, he] <;> rfl

/-! ## The dot by lines -/

/-- A dot of a line that renders: the flag events, the stages, the pixel, the end of the dot. -/
theorem ppuStep_of_rendering {s : State} (h : s.ppu.renderingEnabled = true) (hl : s.ppu.renderLine = true) :
    s.ppuStep =
      { s.flagEvents.renderStages.pixelStage with
        ppu := s.flagEvents.renderStages.pixelStage.ppu.expireLatch.advance } := by
  have e : (s.flagEvents.ppu.renderLine && s.flagEvents.ppu.renderingEnabled) = true := by
    rw [flagEvents_ppu]
    simp only [Ppu.renderLine, Ppu.renderingEnabled] at h hl ⊢
    rw [h, hl]
    rfl
  unfold State.ppuStep
  dsimp only
  rw [if_pos e]

/-- A dot that does not render: the flag events, the pixel, the end of the dot. -/
theorem ppuStep_of_idle {s : State} (h : s.ppu.renderingEnabled = false ∨ s.ppu.renderLine = false) :
    s.ppuStep = { s.flagEvents.pixelStage with ppu := s.flagEvents.pixelStage.ppu.expireLatch.advance } := by
  have e : ¬ (s.flagEvents.ppu.renderLine && s.flagEvents.ppu.renderingEnabled) = true := by
    rw [flagEvents_ppu]
    simp only [Ppu.renderLine, Ppu.renderingEnabled] at h ⊢
    rcases h with h | h <;> rw [h] <;> simp
  unfold State.ppuStep
  dsimp only
  rw [if_neg e]

/-! ## The fields that a dot leaves, and the one stage that each other field comes from -/

/-- The fields of the PPU that no dot writes. -/
def Ppu.fixed (p : Ppu) :=
  (p.ctrl, p.mask, p.oamAddr, p.t, p.fineX, p.w, p.readBuffer, p.oam, p.palette, p.nmiCallbackRegistered)

/-- The four shift registers. -/
def Ppu.shifters (p : Ppu) := (p.bgPatLo, p.bgPatHi, p.bgAttrLo, p.bgAttrHi)

/-- The four latches of the background fetches. -/
def Ppu.latches (p : Ppu) := (p.ntNext, p.atNext, p.patLoNext, p.patHiNext)

/-- What the evaluation stage writes. -/
def Ppu.evaluated (p : Ppu) := (p.secOam, p.secCount, p.secHasZero, p.overflow, p.sprCount, p.sprZeroInLine)

/-- The state that a rendering dot's background stage starts from. -/
def State.shifted (s : State) : State := { s with ppu := s.ppu.shiftStage }

/-- The state that a rendering dot's sprite stage starts from. -/
def State.beforeSprites (s : State) : State :=
  { s.shifted.backgroundStage with ppu := s.shifted.backgroundStage.ppu.scrollStage.evaluateStage }

theorem renderStages_def (s : State) : s.renderStages = s.beforeSprites.spriteStage := rfl

/-- What holds of the PPU before the sprite stage, field group by field group. -/
theorem beforeSprites_ppu (s : State) :
    s.beforeSprites.ppu.fixed = s.ppu.fixed ∧ s.beforeSprites.ppu.shifters = s.ppu.shiftStage.shifters ∧
    s.beforeSprites.ppu.latches = s.shifted.backgroundStage.ppu.latches ∧
    s.beforeSprites.ppu.v = s.shifted.backgroundStage.ppu.scrollStage.v ∧
    s.beforeSprites.ppu.slots = s.ppu.slots ∧ s.beforeSprites.ppu.sprLoLatch = s.ppu.sprLoLatch ∧
    s.beforeSprites.ppu.sprite0Hit = s.ppu.sprite0Hit ∧ s.beforeSprites.ppu.scanline = s.ppu.scanline ∧
    s.beforeSprites.ppu.dot = s.ppu.dot := by
  have h1 := Ppu.shiftStage_eq s.ppu
  have h2 := backgroundStage_ppu s.shifted
  unfold State.beforeSprites
  dsimp only
  generalize hq : s.shifted.backgroundStage.ppu = q at h2 ⊢
  have h3 := Ppu.scrollStage_eq q
  generalize q.scrollStage = r at h3 ⊢
  have h4 := Ppu.evaluateStage_eq r
  generalize r.evaluateStage = e at h4 ⊢
  unfold State.shifted at h2
  generalize s.ppu.shiftStage = w at h1 h2 ⊢
  rw [h4, h3, h2, h1]
  exact ⟨rfl, rfl, rfl, rfl, rfl, rfl, rfl, rfl, rfl⟩

/-- The sprite stage leaves everything but the slots and the low byte in flight. -/
theorem renderStages_ppu (s : State) :
    s.renderStages.ppu.fixed = s.ppu.fixed ∧ s.renderStages.ppu.shifters = s.ppu.shiftStage.shifters ∧
    s.renderStages.ppu.latches = s.shifted.backgroundStage.ppu.latches ∧
    s.renderStages.ppu.v = s.shifted.backgroundStage.ppu.scrollStage.v ∧
    s.renderStages.ppu.evaluated = s.beforeSprites.ppu.evaluated ∧
    s.renderStages.ppu.sprite0Hit = s.ppu.sprite0Hit ∧ s.renderStages.ppu.scanline = s.ppu.scanline ∧
    s.renderStages.ppu.dot = s.ppu.dot := by
  obtain ⟨a, b, c, d, _, _, e, f, g⟩ := beforeSprites_ppu s
  have h := spriteStage_ppu s.beforeSprites
  rw [renderStages_def]
  generalize s.beforeSprites.spriteStage.ppu = q at h ⊢
  generalize s.beforeSprites.ppu = p at *
  rw [h]
  exact ⟨a, b, c, d, rfl, e, f, g⟩

theorem Ppu.endOfDot_fields (p : Ppu) :
    p.expireLatch.advance.fixed = p.fixed ∧ p.expireLatch.advance.shifters = p.shifters ∧
    p.expireLatch.advance.latches = p.latches ∧ p.expireLatch.advance.v = p.v ∧
    p.expireLatch.advance.evaluated = p.evaluated ∧ p.expireLatch.advance.slots = p.slots ∧
    p.expireLatch.advance.sprLoLatch = p.expireLatch.sprLoLatch ∧
    p.expireLatch.advance.sprite0Hit = p.sprite0Hit := by
  have h := Ppu.endOfDot_eq p
  generalize p.expireLatch.advance = q at h ⊢
  generalize p.expireLatch = r at h ⊢
  rw [h]
  exact ⟨rfl, rfl, rfl, rfl, rfl, rfl, rfl, rfl⟩

theorem pixelStage_fields (s : State) :
    s.pixelStage.ppu.fixed = s.ppu.fixed ∧ s.pixelStage.ppu.shifters = s.ppu.shifters ∧
    s.pixelStage.ppu.latches = s.ppu.latches ∧ s.pixelStage.ppu.v = s.ppu.v ∧
    s.pixelStage.ppu.evaluated = s.ppu.evaluated ∧ s.pixelStage.ppu.slots = s.ppu.slots ∧
    s.pixelStage.ppu.sprLoLatch = s.ppu.sprLoLatch ∧ s.pixelStage.ppu.dot = s.ppu.dot := by
  have h := pixelStage_ppu s
  generalize s.pixelStage.ppu = q at h ⊢
  rw [h]
  exact ⟨rfl, rfl, rfl, rfl, rfl, rfl, rfl, rfl⟩

theorem flagEvents_fields (s : State) :
    s.flagEvents.ppu.fixed = s.ppu.fixed ∧ s.flagEvents.ppu.shifters = s.ppu.shifters ∧
    s.flagEvents.ppu.latches = s.ppu.latches ∧ s.flagEvents.ppu.v = s.ppu.v ∧
    s.flagEvents.ppu.slots = s.ppu.slots ∧ s.flagEvents.ppu.sprLoLatch = s.ppu.sprLoLatch ∧
    s.flagEvents.ppu.sprCount = s.ppu.sprCount ∧ s.flagEvents.ppu.sprZeroInLine = s.ppu.sprZeroInLine ∧
    s.flagEvents.ppu.secOam = s.ppu.secOam ∧ s.flagEvents.ppu.scanline = s.ppu.scanline ∧
    s.flagEvents.ppu.dot = s.ppu.dot := by
  have h := flagEvents_ppu s
  generalize s.flagEvents.ppu = q at h ⊢
  rw [h]
  exact ⟨rfl, rfl, rfl, rfl, rfl, rfl, rfl, rfl, rfl, rfl, rfl⟩

/-- After a rendering dot each field group is as the one stage that writes it left it. -/
theorem ppuStep_fields_of_rendering {s : State} (h : s.ppu.renderingEnabled = true) (hl : s.ppu.renderLine = true) :
    let f := s.flagEvents
    s.ppuStep.ppu.shifters = f.ppu.shiftStage.shifters ∧
    s.ppuStep.ppu.latches = f.shifted.backgroundStage.ppu.latches ∧
    s.ppuStep.ppu.v = f.shifted.backgroundStage.ppu.scrollStage.v ∧
    s.ppuStep.ppu.evaluated = f.beforeSprites.ppu.evaluated ∧
    s.ppuStep.ppu.slots = f.beforeSprites.spriteStage.ppu.slots ∧
    s.ppuStep.cart = f.renderStages.cart ∧ s.ppuStep.vram = s.vram ∧
    s.ppuStep.pixel = f.renderStages.pixelStage.pixel ∧
    s.ppuStep.ppu.sprite0Hit = f.renderStages.pixelStage.ppu.sprite0Hit := by
  obtain ⟨_, b, c, d, e, _, _, _⟩ := renderStages_ppu s.flagEvents
  obtain ⟨_, b2, c2, d2, e2, f2, _, g2⟩ := Ppu.endOfDot_fields s.flagEvents.renderStages.pixelStage.ppu
  obtain ⟨_, b1, c1, d1, e1, f1, _, _⟩ := pixelStage_fields s.flagEvents.renderStages
  refine ⟨?_, ?_, ?_, ?_, ?_, ?_, ?_, ?_, ?_⟩
  all_goals first
    | (rw [ppuStep_eq]; done)
    | rw [ppuStep_of_rendering h hl]
  · exact b2.trans (b1.trans b)
  · exact c2.trans (c1.trans c)
  · exact d2.trans (d1.trans d)
  · exact e2.trans (e1.trans e)
  · exact f2.trans f1
  · exact pixelStage_cart _
  · exact g2

/-- No dot writes the registers that only the CPU writes, OAM or the palette (R1015, R1106). -/
theorem ppuStep_fixed (s : State) : s.ppuStep.ppu.fixed = s.ppu.fixed := by
  have hf := (flagEvents_fields s).1
  by_cases h : s.ppu.renderingEnabled = true ∧ s.ppu.renderLine = true
  · rw [ppuStep_of_rendering h.1 h.2]
    exact (Ppu.endOfDot_fields _).1.trans ((pixelStage_fields _).1.trans ((renderStages_ppu _).1.trans hf))
  · rw [ppuStep_of_idle (by simp only [not_and_or, Bool.not_eq_true] at h; exact h)]
    exact (Ppu.endOfDot_fields _).1.trans ((pixelStage_fields _).1.trans hf)

/-! ## Dots and addresses as numbers -/

/-- The dots of R1124. -/
theorem isShiftDot_iff (d : Nat) : isShiftDot d = true ↔ (2 ≤ d ∧ d ≤ 257) ∨ (322 ≤ d ∧ d ≤ 337) := by
  simp [isShiftDot]

/-- The dots of R1125. -/
theorem isReloadDot_iff (d : Nat) :
    isReloadDot d = true ↔ d % 8 = 1 ∧ ((9 ≤ d ∧ d ≤ 257) ∨ d = 329 ∨ d = 337) := by
  simp [isReloadDot]
  omega

/-- The dots of R1121. -/
theorem isFetchDot_iff (d : Nat) : isFetchDot d = true ↔ (1 ≤ d ∧ d ≤ 256) ∨ (321 ≤ d ∧ d ≤ 336) := by
  simp [isFetchDot]

/-- The dots of R1143. -/
theorem isSpriteDot_iff (d : Nat) : isSpriteDot d = true ↔ 257 ≤ d ∧ d ≤ 320 := by simp [isSpriteDot]

/-- A reloaded register as a number. -/
theorem toNat_withLowByte (r : BitVec 16) (b : Byte) : (withLowByte r b).toNat = r.toNat / 256 * 256 + b.toNat := by
  have h := b.isLt
  have hr := r.isLt
  have e : withLowByte r b = (BitVec.extractLsb' 8 8 r ++ b : BitVec 16) := by
    apply BitVec.eq_of_getLsbD_eq
    intro i hi
    have hm : ∀ i : Fin 16, (0xFF00 : BitVec 16).getLsbD i = decide (8 ≤ i.val) := by decide
    simp only [withLowByte, BitVec.getLsbD_or, BitVec.getLsbD_and, BitVec.getLsbD_setWidth, BitVec.getLsbD_append,
      BitVec.getLsbD_extractLsb', hm ⟨i, hi⟩]
    by_cases h8 : i < 8
    · simp [h8, show ¬ 8 ≤ i by omega, hi]
    · simp [h8, show 8 ≤ i by omega, show i - 8 < 8 by omega, show 8 + (i - 8) = i by omega]
  rw [e, BitVec.toNat_append, BitVec.extractLsb'_toNat, Nat.shiftRight_eq_div_pow, ← Nat.shiftLeft_add_eq_or_of_lt h,
    Nat.shiftLeft_eq, show (2 : Nat) ^ 8 = 256 from rfl, Nat.mod_eq_of_lt (by omega)]

/-- The nametable address as a number (R1121). -/
theorem toNat_nametableAddr (p : Ppu) : p.nametableAddr.toNat = 0x2000 + p.v.toNat % 4096 := by
  have hv := p.v.isLt
  have e : p.nametableAddr = ((0x2 : BitVec 2) ++ BitVec.extractLsb' 0 12 p.v : BitVec 14) := by
    apply BitVec.eq_of_getLsbD_eq
    intro i hi
    have h1 : ∀ i : Fin 14, (0x2000 : BitVec 14).getLsbD i = decide (i.val = 13) := by decide
    have h2 : ∀ i : Fin 14, (0x0FFF : BitVec 15).getLsbD i = decide (i.val < 12) := by decide
    simp only [Ppu.nametableAddr, BitVec.getLsbD_or, BitVec.getLsbD_setWidth, BitVec.getLsbD_and, BitVec.getLsbD_append,
      BitVec.getLsbD_extractLsb', h1 ⟨i, hi⟩, h2 ⟨i, hi⟩]
    by_cases h12 : i < 12
    · simp [h12, hi, show i ≠ 13 by omega]
    · have : i = 12 ∨ i = 13 := by omega
      rcases this with rfl | rfl <;> simp
  rw [e, BitVec.toNat_append, BitVec.extractLsb'_toNat, ← Nat.shiftLeft_add_eq_or_of_lt (by omega), Nat.shiftLeft_eq]
  simp

/-- The pattern address as a number (R1121). -/
theorem toNat_patternAddr (p : Ppu) :
    p.patternAddr.toNat = (if p.ctrl.getLsbD 4 then 0x1000 else 0) + 16 * p.ntNext.toNat + p.v.toNat / 4096 := by
  have hv := p.v.isLt
  have hn := p.ntNext.isLt
  have h12 : (p.v >>> 12).toNat = p.v.toNat / 4096 := by simp [Nat.shiftRight_eq_div_pow]
  unfold Ppu.patternAddr
  split <;> simp [BitVec.toNat_add, BitVec.toNat_mul, h12] <;> omega

/-! ## What the two fetching stages do at each dot -/

/-- The background stage, dot by dot (R1121, R1122): one read into a latch, `IncX`, a discarded read, or nothing. -/
theorem backgroundStage_cases (s : State) :
    let d := s.ppu.dot
    let fetches := (1 ≤ d ∧ d ≤ 256) ∨ (321 ≤ d ∧ d ≤ 336)
    let reads (a : BitVec 14) (p : Ppu) : State := { s.afterPpuRead a with ppu := p }
    s.backgroundStage =
      if fetches ∧ d % 8 = 1 then
        reads s.ppu.nametableAddr { s.ppu with ntNext := s.ppuRead s.ppu.nametableAddr }
      else if fetches ∧ d % 8 = 3 then
        reads s.ppu.attributeAddr { s.ppu with atNext := attrBits s.ppu.v (s.ppuRead s.ppu.attributeAddr) }
      else if fetches ∧ d % 8 = 5 then
        reads s.ppu.patternAddr { s.ppu with patLoNext := s.ppuRead s.ppu.patternAddr }
      else if fetches ∧ d % 8 = 7 then
        reads (s.ppu.patternAddr + 8) { s.ppu with patHiNext := s.ppuRead (s.ppu.patternAddr + 8) }
      else if fetches ∧ d % 8 = 0 then { s with ppu.v := incX s.ppu.v }
      else if d = 337 ∨ d = 339 then s.afterPpuRead s.ppu.nametableAddr
      else s := by
  intro d fetches reads
  have hf : isFetchDot s.ppu.dot = decide fetches := by
    rw [Bool.eq_iff_iff, isFetchDot_iff, decide_eq_true_iff]
  unfold State.backgroundStage
  rw [hf]
  by_cases h : fetches
  · have hd : 1 ≤ d := by omega
    rw [if_pos (decide_eq_true h)]
    unfold State.fetchPhase State.fetchInto
    simp only [h, true_and, afterPpuRead_ppu]
    have hd' : s.ppu.dot = d := rfl
    rw [hd']
    split
    · rw [if_pos (by omega)]
    · rw [if_neg (by omega), if_pos (by omega)]
    · rw [if_neg (by omega), if_neg (by omega), if_pos (by omega)]
    · rw [if_neg (by omega), if_neg (by omega), if_neg (by omega), if_pos (by omega)]
    · rw [if_neg (by omega), if_neg (by omega), if_neg (by omega), if_neg (by omega), if_pos (by omega)]
    · next n0 n2 n4 n6 n7 =>
      have e0 : (d - 1) % 8 ≠ 0 := n0
      have e2 : (d - 1) % 8 ≠ 2 := n2
      have e4 : (d - 1) % 8 ≠ 4 := n4
      have e6 : (d - 1) % 8 ≠ 6 := n6
      have e7 : (d - 1) % 8 ≠ 7 := n7
      rw [if_neg (by omega), if_neg (by omega), if_neg (by omega), if_neg (by omega), if_neg (by omega), if_neg (by omega)]
  · rw [if_neg (by simpa using h)]
    simp only [h, false_and, if_false]
    rfl

/-- The sprite stage, dot by dot (R1143): a discarded read, the low byte's read, the slot's load, or nothing. -/
theorem spriteStage_cases (s : State) :
    let d := s.ppu.dot
    let sprites := 257 ≤ d ∧ d ≤ 320
    let i := (d - 257) / 8
    s.spriteStage =
      if sprites ∧ (d % 8 = 2 ∨ d % 8 = 4) then s.afterPpuRead s.ppu.nametableAddr
      else if sprites ∧ d % 8 = 6 then
        { s.afterPpuRead (s.ppu.sprAddr i) with ppu := { s.ppu with sprLoLatch := some (s.ppuRead (s.ppu.sprAddr i)) } }
      else if sprites ∧ d % 8 = 0 then s.loadSprite i
      else s := by
  intro d sprites i
  have hf : isSpriteDot s.ppu.dot = decide sprites := by
    rw [Bool.eq_iff_iff, isSpriteDot_iff, decide_eq_true_iff]
  unfold State.spriteStage
  rw [hf]
  by_cases h : sprites
  · rw [if_pos (decide_eq_true h)]
    unfold State.spriteFetch State.fetchInto
    simp only [h, true_and, afterPpuRead_ppu]
    obtain ⟨h1, h2⟩ := h
    have hd' : s.ppu.dot = d := rfl
    rw [hd']
    split
    · rw [if_pos (by omega)]
    · rw [if_pos (by omega)]
    · rw [if_neg (by omega), if_pos (by omega)]
    · rw [if_neg (by omega), if_neg (by omega), if_pos (by omega)]
    · next n1 n3 n5 n7 =>
      have e1 : (d - 257) % 8 ≠ 1 := n1
      have e3 : (d - 257) % 8 ≠ 3 := n3
      have e5 : (d - 257) % 8 ≠ 5 := n5
      have e7 : (d - 257) % 8 ≠ 7 := n7
      rw [if_neg (by omega), if_neg (by omega), if_neg (by omega)]
  · rw [if_neg (by simpa using h)]
    simp only [h, false_and, if_false]

end Sys2Proof.Machine
end

