-- ==== Sys2Proof/Tests/Slice0.lean ====
section
/-! SUPPORT. The model's own tests, each on one step or one access, with expected results from spec/95_test_vectors.md or
worked from the rules that it names; the ill-formed terms that the well-formedness check refuses; and for each statement
of Obligations.lean with hypotheses, a state and operands that meet them. -/

namespace Sys2Proof.Tests

open Sys2Proof.Machine

/-! ## Helpers -/

/-- The registers a vector gives. -/
structure Regs where
  a : Byte
  x : Byte
  y : Byte
  sp : Byte
  p : Byte
  deriving DecidableEq, Repr

/-- What a vector checks after the first step of an instruction: the registers, PC, the cycles the instruction takes
and work RAM. -/
structure Seen where
  regs : Regs
  pc : Word
  cycles : Nat
  ram : Memory
  deriving DecidableEq, Repr

/-- A CPU at an instruction boundary with PC = $8000. -/
def cpuOf (r : Regs) : Cpu :=
  { Cpu.reset with a := r.a, x := r.x, y := r.y, sp := r.sp, p := r.p, pc := 0x8000, cycles := 0 }

/-- The vectors' cartridge: 32KB of NROM with the code at $8000 and $9000 at the IRQ vector. -/
def cartOf (code : List Byte) : Cartridge := { blankCartridge with prgRom := Memory.ofBytes code ++ [(0x7FFF, 0x90)] }

/-- The vectors' machine. -/
def machine (code : List Byte) (r : Regs) (ram : Memory) : State :=
  { State.reset with cpu := cpuOf r, cart := some (cartOf code), ram := ram }

/-- What is seen after one CPU step. -/
def see (r : Result) : Option Seen :=
  match r with
  | .next t => some ⟨⟨t.cpu.a, t.cpu.x, t.cpu.y, t.cpu.sp, t.cpu.p⟩, t.cpu.pc, t.cpu.cycles + 1, t.ram⟩
  | .fault _ => none
  | .refused _ => none

/-- One CPU step of the vectors' machine. -/
def ran (code : List Byte) (r : Regs) (ram : Memory) : Option Seen := see (cpuStep (machine code r ram))

/-- The vectors' machine with all registers at their usual start. -/
def plain : State := machine [] ⟨0, 0, 0, 0xFD, 0x24⟩ []

/-- A change of the PPU. -/
def withPpu (f : Ppu → Ppu) : State := { plain with ppu := f plain.ppu }

/-- Writes, in order. -/
def wrote (s : State) : List (Word × Byte) → State
  | [] => s
  | (a, v) :: l => wrote (s.busWrite a v) l

/-- The bytes that `n` reads of one address return. -/
def readMany (a : Word) : Nat → State → List Byte
  | 0, _ => []
  | n + 1, s => s.busRead a :: readMany a n (s.afterRead a)

/-! ## The syntax: what is not an instruction -/

/-- The rows without a descriptor are refused (R330), one by one. -/
theorem test_unknown_rows_ill_formed :
    ([.unknown02, .unknown0B, .unknown12, .unknown22, .unknown2B, .unknown32, .unknown42, .unknown4B, .unknown52, .unknown62,
      .unknown6B, .unknown72, .unknown82, .unknown89, .unknown8B, .unknown92, .unknown93, .unknown9B, .unknown9C,
      .unknown9E, .unknown9F, .unknownAB, .unknownB2, .unknownBB, .unknownC2, .unknownCB, .unknownD2, .unknownE2,
      .unknownF2] : List Instr).map Instr.wellFormed = List.replicate 29 false := by decide

/-- Rows next to them are instructions. -/
theorem test_rows_well_formed :
    ([.oraIzx 0, .brk, .sloIzx 0xFF] : List Instr).map Instr.wellFormed = List.replicate 3 true := by decide

/-! ## Decoding: words written from the encodings of R301 and R311 -/

theorem test_decode_load : decode [0xB1, 0x10, 0x77] = .ok (.ldaIzy 0x10, [0x77]) := by rfl
theorem test_decode_store : decode [0x97, 0x20] = .ok (.saxZpy 0x20, []) := by rfl
theorem test_decode_arith : decode [0xED, 0x34, 0x12] = .ok (.sbcAbs 0x1234, []) := by rfl
theorem test_decode_logic : decode [0x2C, 0x02, 0x20] = .ok (.bitAbs 0x2002, []) := by rfl
theorem test_decode_shift : decode [0x7E, 0xFF, 0x02] = .ok (.rorAbsx 0x02FF, []) := by rfl
theorem test_decode_combined : decode [0xDB, 0xFF, 0x02] = .ok (.dcpAbsy 0x02FF, []) := by rfl
theorem test_decode_branch : decode [0xF0, 0xFC] = .ok (.beq 0xFC, []) := by rfl
theorem test_decode_jump : decode [0x6C, 0xFF, 0x02] = .ok (.jmpInd 0x02FF, []) := by rfl
theorem test_decode_flag : decode [0xB8, 0xEA] = .ok (.clv, [0xEA]) := by rfl
theorem test_decode_nop : decode [0x80, 0xFF] = .ok (.nopImm80 0xFF, []) := by rfl
theorem test_decode_sbc_eb : decode [0xEB, 0x10] = .ok (.sbcImmEB 0x10, []) := by rfl
theorem test_decode_unknown : decode [0x9F, 0x00] = .ok (.unknown9F, [0x00]) := by rfl
theorem test_decode_nothing : decode [] = .error .noOpcode := by rfl
theorem test_decode_truncated : decode [0xAD, 0x34] = .error (.truncated 0xAD) := by rfl

/-- The first word of a table word is its least significant byte. -/
theorem test_decodeTableWord : decodeTableWord 24 0x12348D = some (.staAbs 0x1234) := by decide
theorem test_decodeTableWord_short : decodeTableWord 8 0x20 = some (.jsr 0) := by decide

/-! ## One instruction each (spec/95_test_vectors.md section 3) -/

/-- V41.3: LDA $FF,X wraps in page zero (R510). -/
theorem test_lda_v41_3 :
    ran [0xB5, 0xFF] ⟨0x00, 0x01, 0x00, 0xFD, 0x24⟩ [(0x000, 0x77), (0x100, 0x11)] =
      some ⟨⟨0x77, 0x01, 0x00, 0xFD, 0x24⟩, 0x8002, 4, [(0x000, 0x77), (0x100, 0x11)]⟩ := by decide

/-- V41.4: LDA $12FF,X page cross: 5 cycles (R510). -/
theorem test_lda_v41_4 :
    ran [0xBD, 0xFF, 0x12] ⟨0x00, 0x01, 0x00, 0xFD, 0x24⟩ [] =
      some ⟨⟨0x00, 0x01, 0x00, 0xFD, 0x26⟩, 0x8003, 5, []⟩ := by decide

/-- V41.5: LDX $10,Y (zp,Y) (R511). -/
theorem test_ldx_v41_5 :
    ran [0xB6, 0x10] ⟨0x00, 0x00, 0xF5, 0xFD, 0x24⟩ [(0x005, 0x9C)] =
      some ⟨⟨0x00, 0x9C, 0xF5, 0xFD, 0xA4⟩, 0x8002, 4, [(0x005, 0x9C)]⟩ := by decide

/-- V41.6: LDY #$00 (R512). -/
theorem test_ldy_v41_6 :
    ran [0xA0, 0x00] ⟨0x00, 0x00, 0x05, 0xFD, 0x24⟩ [] =
      some ⟨⟨0x00, 0x00, 0x00, 0xFD, 0x26⟩, 0x8002, 2, []⟩ := by decide

/-- V41.7: LAX ($40),Y page cross (R516). -/
theorem test_lax_v41_7 :
    ran [0xB3, 0x40] ⟨0x00, 0x00, 0x10, 0xFD, 0x24⟩ [(0x040, 0xF8), (0x041, 0x02), (0x308, 0x81)] =
      some ⟨⟨0x81, 0x81, 0x10, 0xFD, 0xA4⟩, 0x8002, 6, [(0x040, 0xF8), (0x041, 0x02), (0x308, 0x81)]⟩ := by decide

/-- V41.8: STA $0FFF lands in $07FF (mirror) (R513). -/
theorem test_sta_v41_8 :
    ran [0x8D, 0xFF, 0x0F] ⟨0x3C, 0x00, 0x00, 0xFD, 0x24⟩ [] =
      some ⟨⟨0x3C, 0x00, 0x00, 0xFD, 0x24⟩, 0x8003, 4, [(0x7FF, 0x3C)]⟩ := by decide

/-- V41.9: STA ($FF,X) pointer wraps in page zero (R513). -/
theorem test_sta_v41_9 :
    ran [0x81, 0xFE] ⟨0x5A, 0x01, 0x00, 0xFD, 0x24⟩ [(0x000, 0x02), (0x0FF, 0x34)] =
      some ⟨⟨0x5A, 0x01, 0x00, 0xFD, 0x24⟩, 0x8002, 6, [(0x000, 0x02), (0x0FF, 0x34), (0x234, 0x5A)]⟩ := by decide

/-- V41.11: STX $FF,Y wraps (R514). -/
theorem test_stx_v41_11 :
    ran [0x96, 0xFF] ⟨0x00, 0x42, 0x02, 0xFD, 0x24⟩ [] =
      some ⟨⟨0x00, 0x42, 0x02, 0xFD, 0x24⟩, 0x8002, 4, [(0x001, 0x42)]⟩ := by decide

/-- V41.12: STY $10 (R515). -/
theorem test_sty_v41_12 :
    ran [0x84, 0x10] ⟨0x00, 0x00, 0x99, 0xFD, 0x24⟩ [] =
      some ⟨⟨0x00, 0x00, 0x99, 0xFD, 0x24⟩, 0x8002, 3, [(0x010, 0x99)]⟩ := by decide

/-- V41.13: SAX $20 stores A AND X, no flags (R517). -/
theorem test_sax_v41_13 :
    ran [0x87, 0x20] ⟨0xF0, 0x3C, 0x00, 0xFD, 0x24⟩ [] =
      some ⟨⟨0xF0, 0x3C, 0x00, 0xFD, 0x24⟩, 0x8002, 3, [(0x020, 0x30)]⟩ := by decide

/-- V41.14: TAX of $00 (R520). -/
theorem test_tax_v41_14 :
    ran [0xAA] ⟨0x00, 0x12, 0x00, 0xFD, 0xA4⟩ [] =
      some ⟨⟨0x00, 0x00, 0x00, 0xFD, 0x26⟩, 0x8001, 2, []⟩ := by decide

/-- V41.15: TAY of $FF (R521). -/
theorem test_tay_v41_15 :
    ran [0xA8] ⟨0xFF, 0x00, 0x00, 0xFD, 0x24⟩ [] =
      some ⟨⟨0xFF, 0x00, 0xFF, 0xFD, 0xA4⟩, 0x8001, 2, []⟩ := by decide

/-- V41.16: TXA (R522). -/
theorem test_txa_v41_16 :
    ran [0x8A] ⟨0x00, 0x80, 0x00, 0xFD, 0x24⟩ [] =
      some ⟨⟨0x80, 0x80, 0x00, 0xFD, 0xA4⟩, 0x8001, 2, []⟩ := by decide

/-- V41.17: TYA (R523). -/
theorem test_tya_v41_17 :
    ran [0x98] ⟨0x00, 0x00, 0x01, 0xFD, 0xA6⟩ [] =
      some ⟨⟨0x01, 0x00, 0x01, 0xFD, 0x24⟩, 0x8001, 2, []⟩ := by decide

/-- V41.18: TSX (R524). -/
theorem test_tsx_v41_18 :
    ran [0xBA] ⟨0x00, 0x00, 0x00, 0xFD, 0x24⟩ [] =
      some ⟨⟨0x00, 0xFD, 0x00, 0xFD, 0xA4⟩, 0x8001, 2, []⟩ := by decide

/-- V41.19: TXS sets no flags (R525). -/
theorem test_txs_v41_19 :
    ran [0x9A] ⟨0x00, 0x00, 0x00, 0xFD, 0x24⟩ [] =
      some ⟨⟨0x00, 0x00, 0x00, 0x00, 0x24⟩, 0x8001, 2, []⟩ := by decide

/-- V41.20: PHA at SP=$00 wraps to $FF (R530). -/
theorem test_pha_v41_20 :
    ran [0x48] ⟨0x77, 0x00, 0x00, 0x00, 0x24⟩ [] =
      some ⟨⟨0x77, 0x00, 0x00, 0xFF, 0x24⟩, 0x8001, 3, [(0x100, 0x77)]⟩ := by decide

/-- V41.21: PHP pushes P|$30 (R531). -/
theorem test_php_v41_21 :
    ran [0x08] ⟨0x00, 0x00, 0x00, 0xFD, 0xC3⟩ [] =
      some ⟨⟨0x00, 0x00, 0x00, 0xFC, 0xC3⟩, 0x8001, 3, [(0x1FD, 0xF3)]⟩ := by decide

/-- V41.23: PLA at SP=$FF wraps to $0100 (R532). -/
theorem test_pla_v41_23 :
    ran [0x68] ⟨0x00, 0x00, 0x00, 0xFF, 0x24⟩ [(0x100, 0x80)] =
      some ⟨⟨0x80, 0x00, 0x00, 0x00, 0xA4⟩, 0x8001, 4, [(0x100, 0x80)]⟩ := by decide

/-- V41.24: PLP of $FF: B dropped, U forced (R533). -/
theorem test_plp_v41_24 :
    ran [0x28] ⟨0x00, 0x00, 0x00, 0xFC, 0x24⟩ [(0x1FD, 0xFF)] =
      some ⟨⟨0x00, 0x00, 0x00, 0xFD, 0xEF⟩, 0x8001, 4, [(0x1FD, 0xFF)]⟩ := by decide

/-- V42.4: ADC #$80, A=$80, C=0 (carry and overflow) (R610). -/
theorem test_adc_v42_4 :
    ran [0x69, 0x80] ⟨0x80, 0x00, 0x00, 0xFD, 0x24⟩ [] =
      some ⟨⟨0x00, 0x00, 0x00, 0xFD, 0x67⟩, 0x8002, 2, []⟩ := by decide

/-- V42.5: ADC #$50, A=$50, C=1 (carry in, overflow) (R610). -/
theorem test_adc_v42_5 :
    ran [0x69, 0x50] ⟨0x50, 0x00, 0x00, 0xFD, 0x25⟩ [] =
      some ⟨⟨0xA1, 0x00, 0x00, 0xFD, 0xE4⟩, 0x8002, 2, []⟩ := by decide

/-- V42.9: SBC #$06, A=$05, C=1 (borrow) (R611). -/
theorem test_sbc_v42_9 :
    ran [0xE9, 0x06] ⟨0x05, 0x00, 0x00, 0xFD, 0x25⟩ [] =
      some ⟨⟨0xFF, 0x00, 0x00, 0xFD, 0xA4⟩, 0x8002, 2, []⟩ := by decide

/-- V42.12: SBC #$FF, A=$7F, C=1 (overflow positive to negative) (R611). -/
theorem test_sbc_v42_12 :
    ran [0xE9, 0xFF] ⟨0x7F, 0x00, 0x00, 0xFD, 0x25⟩ [] =
      some ⟨⟨0x80, 0x00, 0x00, 0xFD, 0xE4⟩, 0x8002, 2, []⟩ := by decide

/-- V42.14: AND #$0F giving 0 (R620). -/
theorem test_and_v42_14 :
    ran [0x29, 0x0F] ⟨0xF0, 0x00, 0x00, 0xFD, 0x24⟩ [] =
      some ⟨⟨0x00, 0x00, 0x00, 0xFD, 0x26⟩, 0x8002, 2, []⟩ := by decide

/-- V42.15: ORA (zp),Y page cross: 6 cycles (R621). -/
theorem test_ora_v42_15 :
    ran [0x11, 0x10] ⟨0x01, 0x00, 0xFF, 0xFD, 0x24⟩ [(0x010, 0x01), (0x011, 0x02), (0x300, 0x80)] =
      some ⟨⟨0x81, 0x00, 0xFF, 0xFD, 0xA4⟩, 0x8002, 6, [(0x010, 0x01), (0x011, 0x02), (0x300, 0x80)]⟩ := by decide

/-- V42.17: EOR #$FF (R622). -/
theorem test_eor_v42_17 :
    ran [0x49, 0xFF] ⟨0x0F, 0x00, 0x00, 0xFD, 0x24⟩ [] =
      some ⟨⟨0xF0, 0x00, 0x00, 0xFD, 0xA4⟩, 0x8002, 2, []⟩ := by decide

/-- V42.18: BIT $10 with m=$C0, A=$0F (R623). -/
theorem test_bit_v42_18 :
    ran [0x24, 0x10] ⟨0x0F, 0x00, 0x00, 0xFD, 0x24⟩ [(0x010, 0xC0)] =
      some ⟨⟨0x0F, 0x00, 0x00, 0xFD, 0xE6⟩, 0x8002, 3, [(0x010, 0xC0)]⟩ := by decide

/-- V42.21: CMP #$20, A=$10 (less) (R630). -/
theorem test_cmp_v42_21 :
    ran [0xC9, 0x20] ⟨0x10, 0x00, 0x00, 0xFD, 0x24⟩ [] =
      some ⟨⟨0x10, 0x00, 0x00, 0xFD, 0xA4⟩, 0x8002, 2, []⟩ := by decide

/-- V42.24: CMP #$00, A=$80 ($80 vs $00) (R630). -/
theorem test_cmp_v42_24 :
    ran [0xC9, 0x00] ⟨0x80, 0x00, 0x00, 0xFD, 0x24⟩ [] =
      some ⟨⟨0x80, 0x00, 0x00, 0xFD, 0xA5⟩, 0x8002, 2, []⟩ := by decide

/-- V42.25: CPX #$05 with X=$05 (R631). -/
theorem test_cpx_v42_25 :
    ran [0xE0, 0x05] ⟨0x00, 0x05, 0x00, 0xFD, 0x24⟩ [] =
      some ⟨⟨0x00, 0x05, 0x00, 0xFD, 0x27⟩, 0x8002, 2, []⟩ := by decide

/-- V42.26: CPY #$06 with Y=$05 (R632). -/
theorem test_cpy_v42_26 :
    ran [0xC0, 0x06] ⟨0x00, 0x00, 0x05, 0xFD, 0x24⟩ [] =
      some ⟨⟨0x00, 0x00, 0x05, 0xFD, 0xA4⟩, 0x8002, 2, []⟩ := by decide

/-- V42.27: INC $10 of $FF wraps to 0 (R640). -/
theorem test_inc_v42_27 :
    ran [0xE6, 0x10] ⟨0x00, 0x00, 0x00, 0xFD, 0x24⟩ [(0x010, 0xFF)] =
      some ⟨⟨0x00, 0x00, 0x00, 0xFD, 0x26⟩, 0x8002, 5, []⟩ := by decide

/-- V42.28: DEC $10 of $00 wraps to $FF (R641). -/
theorem test_dec_v42_28 :
    ran [0xC6, 0x10] ⟨0x00, 0x00, 0x00, 0xFD, 0x24⟩ [] =
      some ⟨⟨0x00, 0x00, 0x00, 0xFD, 0xA4⟩, 0x8002, 5, [(0x010, 0xFF)]⟩ := by decide

/-- V42.29: INX of $FF (R642). -/
theorem test_inx_v42_29 :
    ran [0xE8] ⟨0x00, 0xFF, 0x00, 0xFD, 0x24⟩ [] =
      some ⟨⟨0x00, 0x00, 0x00, 0xFD, 0x26⟩, 0x8001, 2, []⟩ := by decide

/-- V42.30: INY of $7F (R643). -/
theorem test_iny_v42_30 :
    ran [0xC8] ⟨0x00, 0x00, 0x7F, 0xFD, 0x24⟩ [] =
      some ⟨⟨0x00, 0x00, 0x80, 0xFD, 0xA4⟩, 0x8001, 2, []⟩ := by decide

/-- V42.31: DEX of $00 (R644). -/
theorem test_dex_v42_31 :
    ran [0xCA] ⟨0x00, 0x00, 0x00, 0xFD, 0x24⟩ [] =
      some ⟨⟨0x00, 0xFF, 0x00, 0xFD, 0xA4⟩, 0x8001, 2, []⟩ := by decide

/-- V42.32: DEY of $01 (R645). -/
theorem test_dey_v42_32 :
    ran [0x88] ⟨0x00, 0x00, 0x01, 0xFD, 0x24⟩ [] =
      some ⟨⟨0x00, 0x00, 0x00, 0xFD, 0x26⟩, 0x8001, 2, []⟩ := by decide

/-- V43.2: ASL $10 of $41: double write $41 then $82 (R710). -/
theorem test_asl_v43_2 :
    ran [0x06, 0x10] ⟨0x00, 0x00, 0x00, 0xFD, 0x24⟩ [(0x010, 0x41)] =
      some ⟨⟨0x00, 0x00, 0x00, 0xFD, 0xA4⟩, 0x8002, 5, [(0x010, 0x82)]⟩ := by decide

/-- V43.3: LSR A of $01 (R711). -/
theorem test_lsr_v43_3 :
    ran [0x4A] ⟨0x01, 0x00, 0x00, 0xFD, 0x24⟩ [] =
      some ⟨⟨0x00, 0x00, 0x00, 0xFD, 0x27⟩, 0x8001, 2, []⟩ := by decide

/-- V43.5: ROL A of $00 with C=1 (R712). -/
theorem test_rol_v43_5 :
    ran [0x2A] ⟨0x00, 0x00, 0x00, 0xFD, 0x25⟩ [] =
      some ⟨⟨0x01, 0x00, 0x00, 0xFD, 0x24⟩, 0x8001, 2, []⟩ := by decide

/-- V43.6: ROR A of $01 with C=1 (R713). -/
theorem test_ror_v43_6 :
    ran [0x6A] ⟨0x01, 0x00, 0x00, 0xFD, 0x25⟩ [] =
      some ⟨⟨0x80, 0x00, 0x00, 0xFD, 0xA5⟩, 0x8001, 2, []⟩ := by decide

/-- V43.7: ROR abs,X: 7 cycles, no penalty (R713). -/
theorem test_ror_v43_7 :
    ran [0x7E, 0xFF, 0x02] ⟨0x00, 0x01, 0x00, 0xFD, 0x24⟩ [(0x300, 0x02)] =
      some ⟨⟨0x00, 0x01, 0x00, 0xFD, 0x24⟩, 0x8003, 7, [(0x300, 0x01)]⟩ := by decide

/-- V43.8: SLO $10: ASL then ORA (R720). -/
theorem test_slo_v43_8 :
    ran [0x07, 0x10] ⟨0x01, 0x00, 0x00, 0xFD, 0x24⟩ [(0x010, 0x81)] =
      some ⟨⟨0x03, 0x00, 0x00, 0xFD, 0x25⟩, 0x8002, 5, [(0x010, 0x02)]⟩ := by decide

/-- V43.9: RLA $10: ROL then AND (R721). -/
theorem test_rla_v43_9 :
    ran [0x27, 0x10] ⟨0xFF, 0x00, 0x00, 0xFD, 0x25⟩ [(0x010, 0x40)] =
      some ⟨⟨0x81, 0x00, 0x00, 0xFD, 0xA4⟩, 0x8002, 5, [(0x010, 0x81)]⟩ := by decide

/-- V43.10: SRE $10: LSR then EOR (R722). -/
theorem test_sre_v43_10 :
    ran [0x47, 0x10] ⟨0xFF, 0x00, 0x00, 0xFD, 0x24⟩ [(0x010, 0x03)] =
      some ⟨⟨0xFE, 0x00, 0x00, 0xFD, 0xA5⟩, 0x8002, 5, [(0x010, 0x01)]⟩ := by decide

/-- V43.11: RRA $10: ROR then ADC (R723). -/
theorem test_rra_v43_11 :
    ran [0x67, 0x10] ⟨0x10, 0x00, 0x00, 0xFD, 0x25⟩ [(0x010, 0x02)] =
      some ⟨⟨0x91, 0x00, 0x00, 0xFD, 0xA4⟩, 0x8002, 5, [(0x010, 0x81)]⟩ := by decide

/-- V43.12: DCP $10: DEC then CMP (R724). -/
theorem test_dcp_v43_12 :
    ran [0xC7, 0x10] ⟨0x40, 0x00, 0x00, 0xFD, 0x24⟩ [(0x010, 0x41)] =
      some ⟨⟨0x40, 0x00, 0x00, 0xFD, 0x27⟩, 0x8002, 5, [(0x010, 0x40)]⟩ := by decide

/-- V43.13: ISB $10: INC then SBC (R725). -/
theorem test_isb_v43_13 :
    ran [0xE7, 0x10] ⟨0x10, 0x00, 0x00, 0xFD, 0x25⟩ [(0x010, 0x0F)] =
      some ⟨⟨0x00, 0x00, 0x00, 0xFD, 0x27⟩, 0x8002, 5, [(0x010, 0x10)]⟩ := by decide

/-- V43.14: DCP abs,Y: 7 cycles even with page cross (R724). -/
theorem test_dcp_v43_14 :
    ran [0xDB, 0xFF, 0x02] ⟨0x00, 0x00, 0x01, 0xFD, 0x24⟩ [(0x300, 0x01)] =
      some ⟨⟨0x00, 0x00, 0x01, 0xFD, 0x27⟩, 0x8003, 7, []⟩ := by decide

/-- V44.1: BNE not taken: 2 cycles (R826). -/
theorem test_bne_v44_1 :
    ran [0xD0, 0x10] ⟨0x00, 0x00, 0x00, 0xFD, 0x26⟩ [] =
      some ⟨⟨0x00, 0x00, 0x00, 0xFD, 0x26⟩, 0x8002, 2, []⟩ := by decide

/-- V44.2: BNE taken forward: 3 cycles (R826). -/
theorem test_bne_v44_2 :
    ran [0xD0, 0x10] ⟨0x00, 0x00, 0x00, 0xFD, 0x24⟩ [] =
      some ⟨⟨0x00, 0x00, 0x00, 0xFD, 0x24⟩, 0x8012, 3, []⟩ := by decide

/-- V44.3: BEQ taken backward across a page: 4 cycles (R827). -/
theorem test_beq_v44_3 :
    ran [0xF0, 0xFC] ⟨0x00, 0x00, 0x00, 0xFD, 0x26⟩ [] =
      some ⟨⟨0x00, 0x00, 0x00, 0xFD, 0x26⟩, 0x7FFE, 4, []⟩ := by decide

/-- V44.4: BPL taken with offset $7F (R820). -/
theorem test_bpl_v44_4 :
    ran [0x10, 0x7F] ⟨0x00, 0x00, 0x00, 0xFD, 0x24⟩ [] =
      some ⟨⟨0x00, 0x00, 0x00, 0xFD, 0x24⟩, 0x8081, 3, []⟩ := by decide

/-- V44.5: BMI taken (R821). -/
theorem test_bmi_v44_5 :
    ran [0x30, 0x02] ⟨0x00, 0x00, 0x00, 0xFD, 0xA4⟩ [] =
      some ⟨⟨0x00, 0x00, 0x00, 0xFD, 0xA4⟩, 0x8004, 3, []⟩ := by decide

/-- V44.6: BVC taken (R822). -/
theorem test_bvc_v44_6 :
    ran [0x50, 0x02] ⟨0x00, 0x00, 0x00, 0xFD, 0x24⟩ [] =
      some ⟨⟨0x00, 0x00, 0x00, 0xFD, 0x24⟩, 0x8004, 3, []⟩ := by decide

/-- V44.7: BVS not taken (R823). -/
theorem test_bvs_v44_7 :
    ran [0x70, 0x02] ⟨0x00, 0x00, 0x00, 0xFD, 0x24⟩ [] =
      some ⟨⟨0x00, 0x00, 0x00, 0xFD, 0x24⟩, 0x8002, 2, []⟩ := by decide

/-- V44.8: BCC taken (R824). -/
theorem test_bcc_v44_8 :
    ran [0x90, 0x02] ⟨0x00, 0x00, 0x00, 0xFD, 0x24⟩ [] =
      some ⟨⟨0x00, 0x00, 0x00, 0xFD, 0x24⟩, 0x8004, 3, []⟩ := by decide

/-- V44.9: BCS taken (R825). -/
theorem test_bcs_v44_9 :
    ran [0xB0, 0x02] ⟨0x00, 0x00, 0x00, 0xFD, 0x25⟩ [] =
      some ⟨⟨0x00, 0x00, 0x00, 0xFD, 0x25⟩, 0x8004, 3, []⟩ := by decide

/-- V44.10: JMP abs (R830). -/
theorem test_jmp_v44_10 :
    ran [0x4C, 0x34, 0x12] ⟨0x00, 0x00, 0x00, 0xFD, 0x24⟩ [] =
      some ⟨⟨0x00, 0x00, 0x00, 0xFD, 0x24⟩, 0x1234, 3, []⟩ := by decide

/-- V44.11: JMP ($02FF) page-wrap bug (R830). -/
theorem test_jmp_v44_11 :
    ran [0x6C, 0xFF, 0x02] ⟨0x00, 0x00, 0x00, 0xFD, 0x24⟩ [(0x200, 0x12), (0x2FF, 0x34), (0x300, 0x56)] =
      some ⟨⟨0x00, 0x00, 0x00, 0xFD, 0x24⟩, 0x1234, 5, [(0x200, 0x12), (0x2FF, 0x34), (0x300, 0x56)]⟩ := by decide

/-- V44.12: JSR $9000 (R831). -/
theorem test_jsr_v44_12 :
    ran [0x20, 0x00, 0x90] ⟨0x00, 0x00, 0x00, 0xFD, 0x24⟩ [] =
      some ⟨⟨0x00, 0x00, 0x00, 0xFB, 0x24⟩, 0x9000, 6, [(0x1FC, 0x02), (0x1FD, 0x80)]⟩ := by decide

/-- V44.14: RTS of $FFFF returns to $0000 (R832). -/
theorem test_rts_v44_14 :
    ran [0x60] ⟨0x00, 0x00, 0x00, 0xFB, 0x24⟩ [(0x1FC, 0xFF), (0x1FD, 0xFF)] =
      some ⟨⟨0x00, 0x00, 0x00, 0xFD, 0x24⟩, 0x0000, 6, [(0x1FC, 0xFF), (0x1FD, 0xFF)]⟩ := by decide

/-- V44.15: RTI (R833). -/
theorem test_rti_v44_15 :
    ran [0x40] ⟨0x00, 0x00, 0x00, 0xFA, 0x24⟩ [(0x1FB, 0xE3), (0x1FC, 0x34), (0x1FD, 0x12)] =
      some ⟨⟨0x00, 0x00, 0x00, 0xFD, 0xE3⟩, 0x1234, 6, [(0x1FB, 0xE3), (0x1FC, 0x34), (0x1FD, 0x12)]⟩ := by decide

/-- V44.17: BRK with I=0 (R834). -/
theorem test_brk_v44_17 :
    ran [0x00, 0xEA] ⟨0x00, 0x00, 0x00, 0xFD, 0xE1⟩ [] =
      some ⟨⟨0x00, 0x00, 0x00, 0xFA, 0xE5⟩, 0x9000, 7, [(0x1FB, 0xF1), (0x1FC, 0x02), (0x1FD, 0x80)]⟩ := by decide

/-- V45.1: CLC (R910). -/
theorem test_clc_v45_1 :
    ran [0x18] ⟨0x00, 0x00, 0x00, 0xFD, 0x25⟩ [] =
      some ⟨⟨0x00, 0x00, 0x00, 0xFD, 0x24⟩, 0x8001, 2, []⟩ := by decide

/-- V45.2: SEC (R911). -/
theorem test_sec_v45_2 :
    ran [0x38] ⟨0x00, 0x00, 0x00, 0xFD, 0x24⟩ [] =
      some ⟨⟨0x00, 0x00, 0x00, 0xFD, 0x25⟩, 0x8001, 2, []⟩ := by decide

/-- V45.3: CLI (R912). -/
theorem test_cli_v45_3 :
    ran [0x58] ⟨0x00, 0x00, 0x00, 0xFD, 0x24⟩ [] =
      some ⟨⟨0x00, 0x00, 0x00, 0xFD, 0x20⟩, 0x8001, 2, []⟩ := by decide

/-- V45.4: SEI (R913). -/
theorem test_sei_v45_4 :
    ran [0x78] ⟨0x00, 0x00, 0x00, 0xFD, 0x20⟩ [] =
      some ⟨⟨0x00, 0x00, 0x00, 0xFD, 0x24⟩, 0x8001, 2, []⟩ := by decide

/-- V45.5: CLV (R914). -/
theorem test_clv_v45_5 :
    ran [0xB8] ⟨0x00, 0x00, 0x00, 0xFD, 0x64⟩ [] =
      some ⟨⟨0x00, 0x00, 0x00, 0xFD, 0x24⟩, 0x8001, 2, []⟩ := by decide

/-- V45.6: CLD (R915). -/
theorem test_cld_v45_6 :
    ran [0xD8] ⟨0x00, 0x00, 0x00, 0xFD, 0x2C⟩ [] =
      some ⟨⟨0x00, 0x00, 0x00, 0xFD, 0x24⟩, 0x8001, 2, []⟩ := by decide

/-- V45.7: SED (R916). -/
theorem test_sed_v45_7 :
    ran [0xF8] ⟨0x00, 0x00, 0x00, 0xFD, 0x24⟩ [] =
      some ⟨⟨0x00, 0x00, 0x00, 0xFD, 0x2C⟩, 0x8001, 2, []⟩ := by decide

/-- V45.9: NOP $1A (unofficial implied) (R920). -/
theorem test_nop_v45_9 :
    ran [0x1A] ⟨0x00, 0x00, 0x00, 0xFD, 0x24⟩ [] =
      some ⟨⟨0x00, 0x00, 0x00, 0xFD, 0x24⟩, 0x8001, 2, []⟩ := by decide

/-- V45.12: NOP $14 zp,X (R921). -/
theorem test_nop_v45_12 :
    ran [0x14, 0x10] ⟨0x00, 0x01, 0x00, 0xFD, 0x24⟩ [] =
      some ⟨⟨0x00, 0x01, 0x00, 0xFD, 0x24⟩, 0x8002, 4, []⟩ := by decide

/-- V45.14: NOP $1C abs,X page cross: 5 cycles (R921). -/
theorem test_nop_v45_14 :
    ran [0x1C, 0xFF, 0x02] ⟨0x00, 0x01, 0x00, 0xFD, 0x24⟩ [] =
      some ⟨⟨0x00, 0x01, 0x00, 0xFD, 0x24⟩, 0x8003, 5, []⟩ := by decide

/-! ## The cycle engine, interrupts, the fault -/

/-- V40.8: abs,Y wraps at $FFFF, which is a page cross (R407). -/
theorem test_effAddr_absY_wraps :
    let s : State := { plain with cpu.y := 0x02 }
    (effAddr (.absY 0xFFFF) s, pageCrossed (.absY 0xFFFF) s) = (0x0001, true) := by decide

/-- V40.9 and V40.10: both pointer bytes come from page zero (R408, R409). -/
theorem test_pointers_wrap :
    let s : State := { plain with cpu.x := 0x01, cpu.y := 0x10, ram := [(0x00, 0x12), (0xFF, 0x34)] }
    (effAddr (.izx 0xFE) s, effAddr (.izy 0xFF) s, pageCrossed (.izy 0xFF) s) = (0x1234, 0x1244, false) := by decide

/-- V40.15: the cross of a branch is against the next instruction's page (R411). -/
theorem test_branch_page : branchExtra 0x00 (plain.setPc 0x8100) = 1 ∧ branchExtra 0xFC (plain.setPc 0x8002) = 2 := by decide

/-- An MMC3 machine whose IRQ is asserted, NMI vector $8100, IRQ vector $9000. -/
def irqMachine (p : Byte) (nmi : Bool) : State :=
  { plain with
    cpu := { plain.cpu with p := p, nmiPending := nmi }
    cart := some
      { blankCartridge with
        prgRom := [(0x7FFB, 0x81), (0x7FFF, 0x90)]
        mapper := .mmc3 { Mmc3.initial .vertical with irqAsserted := true, irqEnabled := true } } }

/-- V60.1: the IRQ entry (R1420). -/
theorem test_irq_entry :
    see (cpuStep { irqMachine 0xA1 false with cpu.pc := 0x8123 }) =
      some ⟨⟨0, 0, 0, 0xFA, 0xA5⟩, 0x9000, 7, [(0x1FB, 0xA1), (0x1FC, 0x23), (0x1FD, 0x81)]⟩ := by decide

/-- V60.3: an NMI goes before an IRQ, and pushes P with B = 0 (R1425). -/
theorem test_nmi_over_irq :
    see (cpuStep (irqMachine 0x20 true)) =
      some ⟨⟨0, 0, 0, 0xFA, 0x24⟩, 0x8100, 7, [(0x1FB, 0x20), (0x1FD, 0x80)]⟩ := by decide

/-- V60.2: with I set the IRQ waits and the instruction at PC runs; the byte there is $00, so it is BRK (R1415). -/
theorem test_irq_masked :
    see (cpuStep (irqMachine 0x24 false)) =
      some ⟨⟨0, 0, 0, 0xFA, 0x24⟩, 0x9000, 7, [(0x1FB, 0x34), (0x1FC, 0x02), (0x1FD, 0x80)]⟩ := by decide

/-- V60.5: an unknown opcode halts, with PC at it (R1401). -/
theorem test_unknown_opcode :
    (match cpuStep (machine [0x02] ⟨0, 0, 0, 0xFD, 0x24⟩ []) with
      | .next t => some (t.cpu.halted, t.cpu.pc, t.cpu.cycles, t.cpu.cycleCount, t.result)
      | .fault _ => none
      | .refused _ => none) = some (true, 0x8000, 0, 1, .failure) := by decide

/-- V60.6: a halted CPU takes no NMI (R1402). -/
theorem test_halted_ignores_nmi :
    (match cpuStep { plain with cpu.halted := true, cpu.nmiPending := true } with
      | .next t => some (t.cpu.nmiPending, t.cpu.pc, t.result)
      | .fault _ => none
      | .refused _ => none) = some (true, 0x8000, .failure) := by decide

/-! ## The bus, DMA, controllers (sections 4.3 and 4.4) -/

/-- V53.1: one byte of work RAM at each of its mirrors (R1310, R1311). -/
theorem test_ram_mirror :
    [0x0001, 0x1001, 0x1801, 0x0002].map (wrote plain [(0x0801, 0x55)]).busRead = [0x55, 0x55, 0x55, 0x00] := by decide

/-- V53.2 to V53.4: the write-only register, the stubs, the unmapped space (R1310). -/
theorem test_unmapped :
    [0x3456, 0x4015, 0x4014, 0x5000, 0x6000].map (withPpu (fun p => { p with openBus := 0x3C })).busRead =
      [0x3C, 0, 0, 0, 0] := by decide

/-- V53.8: A and Start pressed (R1332). -/
theorem test_controller_sequence :
    readMany 0x4016 9 (wrote (setButtons 0x09 0 plain) [(0x4016, 1), (0x4016, 0)]) =
      [0x41, 0x40, 0x40, 0x41, 0x40, 0x40, 0x40, 0x40, 0x41] := by decide

/-- V53.9: the strobe held at 1 (R1330). -/
theorem test_controller_strobe :
    readMany 0x4016 3 (wrote (setButtons 0x01 0 plain) [(0x4016, 1)]) = [0x41, 0x41, 0x41] := by decide

/-- V53.6, V53.7: one byte of OAM DMA lands at OAMADDR + i (R1320). -/
theorem test_dma_byte :
    (State.dmaByte { plain with ram := [(0x2FF, 0xAB)], ppu := { plain.ppu with oamAddr := 0x10 } } 0x02 0xFF).ppu.oam =
      [(0x0F, 0xAB)] := by decide

/-- V52.4: UxROM takes the bank modulo the image's banks (R1209, R1225). -/
theorem test_uxrom_bank :
    let c : Cartridge := { blankCartridge with prgBanks := 8, mapper := Mapper.write (.uxrom 0) 0x8000 0x09 }
    (c.prgIndex 0x8000, c.prgIndex 0xC000) = (0x4000, 0x1C000) := by decide

/-- V52.5, V52.6: CNROM and GxROM (R1230, R1235). -/
theorem test_cnrom_gxrom :
    let c : Cartridge := { blankCartridge with prgBanks := 8, chrBanks := 4, mapper := Mapper.write (.cnrom 0) 0x8000 0x06 }
    let g : Cartridge := { c with mapper := Mapper.write (.gxrom 0 0) 0x8000 0x21 }
    (c.chrIndex 0x0010, g.prgIndex 0x8000, g.chrIndex 0x0000) = (0x4010, 0x10000, 0x2000) := by decide

/-- V52.7: the masks of the bank registers (R1240). -/
theorem test_mmc3_masks :
    let m := ((Mmc3.initial .vertical).write 0x8000 0x06).write 0x8001 0xFF
    let n := (m.write 0x9FFE 0x00).write 0x9FFF 0x05
    (m.regs[6], n.regs[0]) = (0x3F, 0x04) := by decide

/-- V52.8: the two PRG layouts (R1241). -/
theorem test_mmc3_prg :
    let m : Mmc3 := { Mmc3.initial .vertical with regs := #v[0, 0, 0, 0, 0, 0, 5, 7] }
    let c (m : Mmc3) : Cartridge := { blankCartridge with prgBanks := 16, mapper := .mmc3 m }
    ([0x8000, 0xA000, 0xC000, 0xE000].map (c m).prgIndex,
      [0x8000, 0xA000, 0xC000, 0xE000].map (c (m.write 0x8000 0x46)).prgIndex) =
      ([0xA000, 0xE000, 0x3C000, 0x3E000], [0x3C000, 0xE000, 0xA000, 0x3E000]) := by decide

/-- V52.9: the two CHR layouts (R1242). -/
theorem test_mmc3_chr :
    let m : Mmc3 := { Mmc3.initial .vertical with regs := #v[4, 0, 0x10, 0, 0, 0, 0, 0] }
    let c (m : Mmc3) : Cartridge := { blankCartridge with chrBanks := 32, mapper := .mmc3 m }
    ((c m).chrIndex 0x0400, (c { m with chrMode := true }).chrIndex 0x0000) = (0x1400, 0x4000) := by decide

/-- V52.16, V52.17: the A12 filter (R1260). -/
theorem test_mmc3_filter :
    let m (n : Nat) : Mmc3 := { Mmc3.initial .vertical with irqLatch := 2, a12LowCycles := n }
    (((m 2).snoop 3 0x1000).irqCounter, ((m 3).snoop 3 0x1000).irqCounter, ((m 2).snoop 3 0x1000).a12Prev) =
      (0, 2, true) := by decide

/-- V52.11: nametable mirroring (R1210, R1211). -/
theorem test_mirroring :
    let c (m : Mirroring) : Cartridge := { blankCartridge with mirroring := m }
    ([0x2400, 0x2800, 0x2C00].map (c .vertical).vramIndex, [0x2400, 0x2800, 0x2C00].map (c .horizontal).vramIndex) =
      ([0x400, 0x000, 0x400], [0x000, 0x400, 0x400]) := by decide

/-- V52.20: the mapper number and the mirroring of a header (R1201). -/
theorem test_header :
    let h := Header.ofImage [0x4E, 0x45, 0x53, 0x1A, 0x02, 0x01, 0x21, 0x40]
    (h.mapper, h.mirroring, h.declared) = (66, .vertical, 16 + 32768 + 8192) := by decide

/-! ## The PPU (sections 4.1 and 4.2) -/

/-- V50.4: PPUSTATUS (R1030). -/
theorem test_ppustatus :
    let s := withPpu (fun p => { p with vbl := true, sprite0Hit := true, openBus := 0x1F, w := true })
    let t := (s.afterRead 0x2002).ppu
    (s.busRead 0x2002, t.vbl, t.w, t.sprite0Hit) = (0xDF, false, false, true) := by decide

/-- V50.19: the VBL race (R1040). -/
theorem test_vbl_race :
    let s := withPpu (fun p => { p with scanline := 241, dot := 1, ctrl := 0x80 })
    let t := (s.afterRead 0x2002).flagEvents
    (s.busRead 0x2002, t.ppu.vbl, t.cpu.nmiPending, s.flagEvents.ppu.vbl, s.flagEvents.cpu.nmiPending) =
      (0x00, false, false, true, true) := by decide

/-- V50.8: OAMDATA during rendering (R1016). -/
theorem test_oamdata_rendering :
    let s := wrote (withPpu (fun p => { p with mask := 0x18, scanline := 100, oamAddr := 0x05 })) [(0x2004, 0x12)]
    (s.ppu.oam, s.ppu.oamAddr) = ([], 0x05) := by decide

/-- V50.10, V50.11: the buffered read (R1026). -/
theorem test_ppudata_buffer :
    readMany 0x2007 2 { withPpu (fun p => { p with v := 0x2000 }) with vram := [(0, 0xAB), (1, 0xCD)] } = [0x00, 0xAB] := by
  decide

/-- V50.13: a PPUSCROLL pair (R1020). -/
theorem test_ppuscroll :
    let s := wrote plain [(0x2005, 0x7D), (0x2005, 0x5E)]
    (s.ppu.t, s.ppu.fineX, s.ppu.w) = (0x616F, 5, false) := by decide

/-- V50.15: PPUSTATUS resets the latch that PPUADDR uses (R1021, R1030). -/
theorem test_ppuaddr :
    (wrote ((withPpu (fun p => { p with w := true })).afterRead 0x2002) [(0x2006, 0x3F), (0x2006, 0x10)]).ppu.v = 0x3F10 := by
  decide

/-- V50.2, V50.3: the NMI of a PPUCTRL write inside vblank (R1010). -/
theorem test_ppuctrl_nmi :
    ((wrote (withPpu (fun p => { p with vbl := true })) [(0x2000, 0x80)]).cpu.nmiPending,
      (wrote (withPpu (fun p => { p with vbl := true, ctrl := 0x80 })) [(0x3FF8, 0x80)]).cpu.nmiPending) =
      (true, false) := by decide

/-- V51.9, V51.10: palette mirrors (R1103). -/
theorem test_palette_mirror :
    let s := ((plain.ppuWrite 0x3F00 0x2A).ppuWrite 0x3F14 0x15).ppuWrite 0x3F15 0x16
    [0x3F10, 0x3F04, 0x3F05, 0x3F15].map s.ppuRead = [0x2A, 0x15, 0x00, 0x16] := by decide

/-- V51.2 to V51.8: the scroll increments (R1111, R1112). -/
theorem test_increments :
    ([0x001F, 0x041F, 0x0005].map incX, [0x0000, 0x7000, 0x73A0, 0x73E0, 0x7BA0].map incY) =
      ([0x0400, 0x0000, 0x0006], [0x1000, 0x0020, 0x0800, 0x0000, 0x0000]) := by decide

/-- V51.15: the attribute byte of nametable 3 (R1123). -/
theorem test_attribute :
    (Ppu.attributeAddr { Ppu.reset with v := 0x0CBF }, attrBits 0x0CBF 0xE4) = (0x2FCF, 1) := by decide

/-- V51.16, V51.17: sprite pattern addresses (R1144). -/
theorem test_sprite_address :
    (spritePatternAddr 0x08 0x21 (spriteRow 12 8 9 0x00), spritePatternAddr 0x20 0x03 (spriteRow 0x19 16 0x10 0x00),
      spritePatternAddr 0x20 0x03 (spriteRow 0x19 16 0x10 0x80)) = (0x1213, 0x1031, 0x1026) := by decide

/-- V51.14: the ninth sprite in range only sets the overflow flag (R1141). -/
theorem test_ninth_sprite :
    let e : Evaluation := ⟨8, [], true, false⟩
    e.entry 16 8 [(32, 0x10)] 8 = { e with overflow := true } := by decide

/-- V51.20: the odd-frame skip (R1105). -/
theorem test_odd_frame_skip :
    let p : Ppu := Ppu.advance { Ppu.reset with scanline := -1, dot := 339, frame := 1, mask := 0x08 }
    (p.scanline, p.dot) = (0, 0) := by decide

/-- V51.24, V51.25: priority, clipping and transparency in the mux (R1150). -/
theorem test_mux :
    [muxIndex 2 1 ⟨3, 4, true, false⟩, muxIndex 2 1 ⟨3, 4, false, false⟩, muxIndex 0 1 ⟨0, 4, false, false⟩,
      muxIndex 0 1 ⟨1, 5, true, false⟩] = [0x06, 0x13, 0x00, 0x15] := by decide

/-- V51.26: greyscale (R1150). -/
theorem test_greyscale : Ppu.greyscale { Ppu.reset with mask := 0x01 } 0x2A = 0x20 := by decide

/-! ## Reset, and the host's two entries -/

/-- Resetting the machine of `State.reset` leaves it as it is (R1501). -/
theorem test_reset_is_reset : hostReset State.reset = State.reset := by decide

/-- Power-on with the defaults of R11, a cartridge, and reset (R1500). -/
theorem test_power_on_reset :
    hostReset { powerOn Params.defaults .zero with cart := some blankCartridge } = State.reset := by decide

/-- Another draw is read where it was drawn, and reset keeps it (R1500, R1503). -/
theorem test_power_on_draw :
    (let s := hostReset (powerOn Params.defaults { PowerOnState.zero with ram := [0, 0xAA], secOam := [0x55] })
     (s.busRead 0x0801, s.ppu.secOam.read 0, s.cpu.a)) = (0xAA, 0x55, 0) := by decide

/-- The results of writes: work RAM, OAM DMA and the mapper take them, the APU and $4017 do not (R1311). -/
theorem test_write_results :
    [0x1FFF, 0x2002, 0x4014, 0x4016, 0x8000, 0x4015, 0x4017, 0x6000].map (fun a => plain.busWriteResult a 0) =
      [true, true, true, true, true, false, false, false] := by decide

/-- `withFetchWord`: the next step runs the word's instruction (here LDA #$42). -/
theorem test_withFetchWord :
    (match step (State.reset.withFetchWord 16 0x42A9) with
      | .next t => some (t.cpu.a, t.cpu.pc, t.cpu.cycles)
      | .fault _ => none
      | .refused _ => none) = some (0x42, 0x0002, 1) := by decide

/-- A step without a cartridge stops by name (R1202, R1271). -/
theorem test_no_cartridge : step (teardown plain) = .fault .noCartridge := by rfl

/-! ## Witnesses: for each statement with hypotheses, what meets them, at the ends of the ranges it names -/

/-- Whether a meaning answers a next state. -/
def isNext (r : Result) : Bool :=
  match r with
  | .next _ => true
  | .fault _ => false
  | .refused _ => false

/-- Rows with the given mnemonics whose operand is read. -/
def reads (l : List (Instr × Mnemonic)) : Bool :=
  l.all (fun q => q.1.row.operand.source.isSome && q.1.mnemonic == q.2 && isNext (exec q.1 plain))

/-- Rows with the given mnemonics whose operand is in memory. -/
def inMemory (l : List (Instr × Mnemonic)) : Bool :=
  l.all (fun q => q.1.row.operand.mode.isSome && q.1.mnemonic == q.2 && isNext (exec q.1 plain))

theorem witness_EncodeOfDecode : decode [0xA9, 0x42, 0x07] = .ok (.ldaImm 0x42, [0x07]) := by rfl
theorem witness_OpcodeByteFixesRow :
    (Instr.ldaAbs 0x0000).row.opcode = (Instr.ldaAbs 0xFFFF).row.opcode ∧
    ([.brk, .aslAcc, .bne 0xFF, .jmpInd 0xFFFF] : List Instr).all (fun i => i.mnemonic != .unknown) = true := by decide
theorem witness_LoadResult :
    reads [(.ldaIzy 0xFF, .lda), (.ldxImm 0x00, .ldx), (.ldyAbsx 0xFFFF, .ldy), (.laxZpy 0xFF, .lax)] = true := by decide
theorem witness_StoreResult :
    inMemory [(.staAbsy 0xFFFF, .sta), (.stxZpy 0xFF, .stx), (.styAbs 0x2007, .sty), (.saxIzx 0x00, .sax)] = true := by decide
theorem witness_AddSubtractResult : reads [(.adcImm 0xFF, .adc), (.sbcAbs 0x2002, .sbc), (.sbcImmEB 0x00, .sbc)] = true := by
  decide
theorem witness_SubtractIsBorrowSubtract : reads [(.sbcIzx 0xFF, .sbc), (.sbcImmEB 0xFF, .sbc)] = true := by decide
theorem witness_LogicResult :
    reads [(.andImm 0x00, .and_), (.oraIzy 0xFF, .ora), (.eorAbsx 0xFFFF, .eor), (.bitAbs 0x2002, .bit)] = true := by decide
theorem witness_CompareResult :
    reads [(.cmpAbsy 0xFFFF, .cmp), (.cpxImm 0xFF, .cpx), (.cpyZp 0x00, .cpy)] = true := by decide
theorem witness_MemoryShiftResult :
    inMemory [(.aslZp 0xFF, .asl), (.lsrAbs 0x2002, .lsr), (.rolAbsx 0xFFFF, .rol), (.rorZpx 0xFF, .ror), (.incAbs 0x0000, .inc),
      (.decAbs 0x4016, .dec)] = true := by decide
theorem witness_CombinedModifyResult :
    inMemory [(.sloIzx 0xFF, .slo), (.rlaIzy 0xFF, .rla), (.sreAbsy 0xFFFF, .sre), (.rraAbs 0x2007, .rra), (.dcpZp 0x00, .dcp),
      (.isbAbsx 0x0000, .isb)] = true := by decide
theorem witness_StackRoundTrips :
    isNext (exec .pha plain) = true ∧ isNext (exec (.jsr 0xFFFF) plain) = true ∧ isNext (exec .brk plain) = true := by decide
theorem witness_NopResult :
    (Instr.nopImp.mnemonic = .nop ∧ Instr.nopImp.row.operand = .imp) ∧ reads [(.nopImm80 0xFF, .nop), (.nopAbsxFC 0xFFFF, .nop)] = true := by
  decide
theorem witness_UnknownOpcodeResult : Instr.unknown02.mnemonic = .unknown ∧ Instr.unknownF2.mnemonic = .unknown := by decide

theorem witness_ReadingInstructionFrame :
    reads [(.ldaAbs 0x1FFF, .lda), (.ldxAbs 0x4018, .ldx), (.ldyAbs 0x2002, .ldy), (.laxAbs 0x3FFF, .lax), (.adcImm 0, .adc),
      (.cpyImm 0, .cpy), (.nopAbs0C 0x4016, .nop)] = true ∧
    (Instr.ldaAbs 0x1FFF).row.operand.source = some (.mem (.abs 0x1FFF)) ∧ (effAddr (.abs 0x1FFF) plain).toNat ≤ 0x1FFF ∧
    (Instr.ldxAbs 0x4018).row.operand.source = some (.mem (.abs 0x4018)) ∧ 0x4018 ≤ (effAddr (.abs 0x4018) plain).toNat ∧
    [0x2000, 0x2001, 0x2003, 0x3FFE, 0x4000, 0x4015].all (fun a : Word =>
      let ea := (effAddr (.abs a) plain).toNat
      decide ((Instr.ldaAbs a).row.operand.source = some (.mem (.abs a)) ∧
        ((0x2000 ≤ ea ∧ ea ≤ 0x3FFF ∧ ea % 8 ≠ 2 ∧ ea % 8 ≠ 7) ∨ (0x4000 ≤ ea ∧ ea ≤ 0x4015)))) = true := by decide

theorem witness_StoringInstructionFrame :
    inMemory [(.staAbs 0x1FFF, .sta), (.stxAbs 0x2004, .stx), (.styAbs 0x7FFF, .sty), (.saxAbs 0x8000, .sax), (.aslAbs 0x2007, .asl),
      (.isbAbs 0x6000, .isb)] = true ∧
    plain.storesTo 0x1FFF .ram 0x7FE = false ∧ plain.storesTo 0x1FFF .ram 0x7FF = true ∧
    plain.storesTo 0x2004 .oam 0x00 = true ∧ plain.storesTo 0x2004 .oam 0x01 = false ∧
    plain.storesTo 0x4014 .oam 0xFF = true ∧ plain.storesTo 0x7FFF .prgRam 0x1FFF = true ∧
    (List.range 16).all (fun j => !plain.storesTo 0x8000 .prgRom j) = true := by decide

/-- A machine with an instruction at PC, on a CPU call. -/
theorem witness_StepRunsDecodedInstruction :
    (let s := machine [0xAD, 0x34, 0x12] ⟨0, 0, 0, 0xFD, 0x24⟩ []
     s.cart.isSome = true ∧ s.clock % 3 = 0 ∧ s.beginCall.AtFetch ∧
      decode (s.beginCall.fetchBytes 3) = .ok (.ldaAbs 0x1234, []) ∧ (Instr.ldaAbs 0x1234).wellFormed = true) ∧
    (let s := machine [0x02] ⟨0, 0, 0, 0xFD, 0x24⟩ []
     s.cart.isSome = true ∧ s.clock % 3 = 0 ∧ s.beginCall.AtFetch ∧
      decode (s.beginCall.fetchBytes 3) = .ok (.unknown02, [0, 0]) ∧ Instr.unknown02.wellFormed = false) :=
  ⟨⟨rfl, rfl, ⟨rfl, rfl, rfl, rfl⟩, rfl, rfl⟩, ⟨rfl, rfl, ⟨rfl, rfl, rfl, rfl⟩, rfl, rfl⟩⟩

/-- Calls that are not CPU calls, and a CPU call with cycles left. -/
theorem witness_StepRunsDecodedInstruction_others :
    [1, 2, 4].all (fun k => let s : State := { plain with clock := k }; s.cart.isSome && s.clock % 3 != 0) = true ∧
    [1, 7].all (fun k =>
      let s : State := { plain with cpu.cycles := k }
      s.cart.isSome && s.clock % 3 == 0 && !s.cpu.halted && s.cpu.cycles != 0) = true := by decide

theorem witness_InstructionOccupiesItsCycles :
    State.reset.cpu.halted = false ∧ 1 ≤ 1 ∧ 1 ≤ State.reset.cpu.cycles ∧ 7 ≤ State.reset.cpu.cycles := by decide

theorem witness_UnknownOpcodeFault :
    (machine [0x02] ⟨0, 0, 0, 0xFD, 0x24⟩ []).AtFetch ∧
    (machine [0x02] ⟨0, 0, 0, 0xFD, 0x24⟩ []).busRead 0x8000 ∈ unknownOpcodes ∧ plain.AtFetch ∧
    plain.busRead plain.cpu.pc ∉ unknownOpcodes :=
  ⟨⟨rfl, rfl, rfl, rfl⟩, by decide, ⟨rfl, rfl, rfl, rfl⟩, by decide⟩

theorem witness_HaltedIsSticky :
    (let s : State := { plain with cpu.halted := true }
     s.cpu.halted = true ∧ s.clock % 3 = 0 ∧ isNext (step s) = true) := by decide

/-- An NMI and an IRQ about to be taken, at the first and the last step of the entry. -/
theorem witness_InterruptEntryEffect :
    (let s := irqMachine 0x24 true; s.cpu.halted = false ∧ s.cpu.cycles = 0 ∧ s.cpu.nmiPending = true) ∧
    (let s := irqMachine 0x20 false
     s.cpu.halted = false ∧ s.cpu.cycles = 0 ∧ s.cpu.nmiPending = false ∧ s.irqLine = true ∧ flagI s.cpu.p = false) ∧
    [1, 7].all (fun n => decide (1 ≤ n ∧ n ≤ 7)) = true := by decide

theorem witness_InterruptPriority :
    (State.reset.cpu.halted = false ∧ State.reset.cpu.cycles ≠ 0) ∧
    (let s := irqMachine 0x24 true; s.cpu.halted = false ∧ s.cpu.cycles = 0 ∧ s.cpu.nmiPending = true) ∧
    (let s := irqMachine 0x20 false
     s.cpu.halted = false ∧ s.cpu.cycles = 0 ∧ s.cpu.nmiPending = false ∧ s.irqLine = true ∧ flagI s.cpu.p = false) ∧
    (let s := irqMachine 0x24 false
     s.cpu.halted = false ∧ s.cpu.cycles = 0 ∧ s.cpu.nmiPending = false ∧ s.irqLine = true ∧ flagI s.cpu.p = true) ∧
    (plain.cpu.halted = false ∧ plain.cpu.cycles = 0 ∧ plain.cpu.nmiPending = false ∧ plain.irqLine = false) := by decide

/-- A machine with PRG-RAM. -/
def withPrgRam : State := { plain with cart := some { blankCartridge with prgRam := some [] } }

/-- BusReadMap and BusWriteMap: the windows of the bus at their first and last addresses. -/
theorem witness_BusMaps :
    (plain.cart = some (cartOf []) ∧ (cartOf []).prgRam = none) ∧
    (withPrgRam.cart = some { blankCartridge with prgRam := some [] }) ∧
    [0x8000, 0xFFFF].all (fun a : Word => decide (0x8000 ≤ a.toNat)) = true ∧
    [0x6000, 0x7FFF].all (fun a : Word => decide (0x6000 ≤ a.toNat ∧ a.toNat ≤ 0x7FFF)) = true ∧
    [0x0000, 0x1FFF].all (fun a : Word => decide (a.toNat ≤ 0x1FFF)) = true ∧
    [0x2000, 0x3FFF].all (fun a : Word => decide (0x2000 ≤ a.toNat ∧ a.toNat ≤ 0x3FFF)) = true ∧
    [0x4000, 0x4015, 0x4018, 0x5FFF].all (fun a : Word =>
      decide (0x4000 ≤ a.toNat ∧ a.toNat ≤ 0x5FFF ∧ a ≠ 0x4014 ∧ a ≠ 0x4016 ∧ a ≠ 0x4017)) = true ∧
    (0x4017 : Word) ≠ 0x4014 ∧ (0x4017 : Word) ≠ 0x4016 := by decide

theorem witness_OamDmaCopiesPage :
    [0x00, 0x1F, 0x41, 0xFF].all (fun p : Byte => decide (p.toNat < 0x20 ∨ 0x41 ≤ p.toNat)) = true ∧
    (0x40 : Byte).toNat = 0x40 ∧ plain.cpu.a = 0x00 := by decide

theorem witness_ControllerReadSequence :
    (wrote plain [(0x4016, 1)]).strobe = true ∧
    (plain.strobe = false ∧ plain.shift1 ≤ 8 ∧ plain.shift2 ≤ 8) ∧
    (let s : State := { plain with shift1 := 8, shift2 := 8 }; s.strobe = false ∧ s.shift1 ≤ 8 ∧ s.shift2 ≤ 8) := by decide

theorem witness_PpuStatusRead :
    (let s := withPpu (fun p => { p with scanline := 241, dot := 1, ctrl := 0x80 })
     s.ppu.scanline = 241 ∧ s.ppu.dot = 1 ∧ s.ppu.vblSuppress = false ∧ s.ppu.ctrl.getLsbD 7 = true ∧
      s.ppu.nmiCallbackRegistered = true) := by decide

theorem witness_PpuControlWrite : plain.ppu.nmiCallbackRegistered = true := by decide
theorem witness_ScrollAndAddressWrites :
    plain.ppu.w = false ∧ (withPpu (fun p => { p with w := true })).ppu.w = true := by decide
theorem witness_OamAndOpenBusRegisters : (0 : BitVec 3) ∈ [0, 1, 3, 5, (6 : BitVec 3)] ∧ (6 : BitVec 3) ∈ [0, 1, 3, 5, (6 : BitVec 3)] := by
  decide

theorem witness_PpuAddressSpace :
    plain.cart = some (cartOf []) ∧
    [0x3F00, 0x3FFF].all (fun a : BitVec 14 => decide (0x3F00 ≤ a.toNat)) = true ∧
    [0x2000, 0x3EFF].all (fun a : BitVec 14 => decide (0x2000 ≤ a.toNat ∧ a.toNat < 0x3F00)) = true ∧
    [0x0000, 0x1FFF].all (fun a : BitVec 14 => decide (a.toNat < 0x2000)) = true := by decide

/-- A PPU at a position. -/
def ppuAt (line : Int) (dot frame : Nat) (mask : Byte) : Ppu :=
  { Ppu.reset with scanline := line, dot := dot, frame := frame, mask := mask }

theorem witness_ppuAt {line : Int} {dot : Nat} (frame : Nat) (mask : Byte) (h1 : -1 ≤ line) (h2 : line ≤ 260) (h3 : dot ≤ 340) :
    (ppuAt line dot frame mask).Inv :=
  ⟨h1, h2, h3, Nat.zero_le _, Nat.zero_le _, ⟨rfl, rfl⟩, ⟨rfl, rfl⟩⟩

/-- The odd-frame skip, an ordinary dot, the end of a line, the end of a frame; and the first dot of both kinds of
frame. -/
theorem witness_DotAdvance :
    ((ppuAt (-1) 339 1 0x08).Inv ∧ (ppuAt (-1) 339 1 0x08).renderingEnabled = true) ∧
    ((ppuAt (-1) 339 1 0x00).Inv ∧ (ppuAt (-1) 339 1 0x00).renderingEnabled = false) ∧
    (ppuAt 259 340 0 0x18).Inv ∧ (ppuAt 260 340 0 0x18).Inv ∧
    ((ppuAt (-1) 0 1 0x08).scanline = -1 ∧ (ppuAt (-1) 0 1 0x08).dot = 0) :=
  ⟨⟨witness_ppuAt 1 0x08 (by decide) (by decide) (by decide), rfl⟩,
    ⟨witness_ppuAt 1 0x00 (by decide) (by decide) (by decide), rfl⟩,
    witness_ppuAt 0 0x18 (by decide) (by decide) (by decide), witness_ppuAt 0 0x18 (by decide) (by decide) (by decide),
    ⟨rfl, rfl⟩⟩

theorem witness_VblankAndFlagEvents :
    [(241, 1), (-1, 1), (241, 0), (-1, 2)].all (fun q : Int × Nat =>
      (withPpu (fun _ => ppuAt q.1 q.2 0 0)).ppu.nmiCallbackRegistered) = true := by decide

theorem witness_PixelSinkCalls :
    [(0, 1), (239, 256)].all (fun q : Int × Nat =>
      let s := withPpu (fun _ => ppuAt q.1 q.2 0 0)
      decide (0 ≤ s.ppu.scanline ∧ s.ppu.scanline ≤ 239 ∧ 1 ≤ s.ppu.dot ∧ s.ppu.dot ≤ 256 ∧
        s.ppu.renderingEnabled = false)) = true ∧
    [(0, 0), (239, 257), (-1, 1), (240, 1)].all (fun q : Int × Nat =>
      let s := withPpu (fun _ => ppuAt q.1 q.2 0 0)
      decide (¬ (0 ≤ s.ppu.scanline ∧ s.ppu.scanline ≤ 239 ∧ 1 ≤ s.ppu.dot ∧ s.ppu.dot ≤ 256))) = true := by decide

/-- The last slot alone shows in the column of the last dot; sprites are off at the first. -/
theorem witness_PixelSinkCalls_mux :
    (let s := withPpu (fun _ => { ppuAt 239 256 0 0x10 with
       sprCount := 8, slots := (Vector.replicate 8 ⟨0, 0, 0, 0⟩).set 7 ⟨0x01, 0x00, 248, 0⟩ })
     s.ppu.renderingEnabled = true ∧ s.ppu.mask.getLsbD 4 = true ∧ 8 ≤ s.ppu.dot - 1 ∧ 7 < s.ppu.sprCount ∧
      s.ppu.slots[7].x.toNat ≤ s.ppu.dot - 1 ∧ s.ppu.dot - 1 ≤ s.ppu.slots[7].x.toNat + 7 ∧
      s.ppu.slots[7].lo.getLsbD (s.ppu.slots[7].x.toNat + 7 - (s.ppu.dot - 1)) = true ∧
      (∀ j : Fin 7, ¬ (s.ppu.slots[j.val].x.toNat ≤ s.ppu.dot - 1 ∧ s.ppu.dot - 1 ≤ s.ppu.slots[j.val].x.toNat + 7))) ∧
    (let s := withPpu (fun _ => ppuAt 0 1 0 0x10)
     s.ppu.renderingEnabled = true ∧ ¬ 8 ≤ s.ppu.dot - 1 ∧ s.ppu.mask.getLsbD 2 = false) := by decide

/-- Dots that do not render: lines 240 and 260 with rendering enabled, and any line without. -/
theorem witness_PixelSinkCalls_idle :
    [(240, 0), (241, 1), (260, 339)].all (fun q : Int × Nat =>
      let s := withPpu (fun _ => ppuAt q.1 q.2 0 0x18)
      decide (240 ≤ s.ppu.scanline ∧ s.ppu.renderingEnabled = true ∧ ¬ (s.ppu.scanline = -1 ∧ s.ppu.dot = 1) ∧
        ¬ (s.ppu.scanline = 260 ∧ s.ppu.dot = 340) ∧ s.ppu.dot ≤ 340 ∧ s.ppu.scanline ≤ 260)) = true ∧
    (withPpu (fun _ => ppuAt (-1) 1 0 0)).ppu.renderingEnabled = false := by decide

theorem witness_ScrollUpdates :
    [(-1, 1), (239, 255), (-1, 256), (239, 257), (-1, 280), (-1, 304), (0, 258), (-1, 279), (-1, 305), (239, 340)].all
      (fun q : Int × Nat =>
        let s := withPpu (fun _ => ppuAt q.1 q.2 0 0x08)
        decide (s.ppu.renderingEnabled = true ∧ -1 ≤ s.ppu.scanline ∧ s.ppu.scanline ≤ 239)) = true := by decide

theorem witness_FetchAddresses :
    (let p : Ppu := { ppuAt 15 0 0 0x10 with sprCount := 8, secOam := [(28, 8)] }
     7 < p.sprCount ∧ 0 ≤ p.scanline - ((p.secOam.read 28).toNat : Int) ∧
      p.scanline - ((p.secOam.read 28).toNat : Int) < 8) ∧ ¬ 0 < Ppu.reset.sprCount ∧
    [(-1, 0), (-1, 1), (0, 257), (0, 264), (239, 320), (239, 337), (239, 340)].all (fun q : Int × Nat =>
      let s := withPpu (fun _ => ppuAt q.1 q.2 0 0x08)
      decide (s.ppu.renderingEnabled = true ∧ -1 ≤ s.ppu.scanline ∧ s.ppu.scanline ≤ 239)) = true := by decide

theorem witness_SpriteEvaluation :
    [(0, 64), (239, 64), (0, 256), (239, 256)].all (fun q : Int × Nat =>
      let s := withPpu (fun _ => ppuAt q.1 q.2 0 0x10)
      decide (s.ppu.renderingEnabled = true ∧ 0 ≤ s.ppu.scanline ∧ s.ppu.scanline ≤ 239 ∧
        (s.ppu.dot = 64 ∨ s.ppu.dot = 256))) = true ∧
    [(-1, 256), (0, 255), (240, 256)].all (fun q : Int × Nat =>
      let s := withPpu (fun _ => ppuAt q.1 q.2 0 0x10)
      decide (¬ (0 ≤ s.ppu.scanline ∧ s.ppu.scanline ≤ 239 ∧ s.ppu.dot = 256) ∧
        ¬ (s.ppu.scanline = -1 ∧ s.ppu.dot = 1) ∧ s.ppu.dot ≠ 64)) = true := by decide

/-- DiscreteMapperBanks and Mmc3Banks: the five variants with one PRG bank, at the ends of their windows. -/
theorem witness_MapperBanks :
    [Mapper.nrom, .uxrom 0xFF, .cnrom 0xFF, .gxrom 3 3, .mmc3 (Mmc3.initial .vertical)].all (fun m =>
      let c : Cartridge := { blankCartridge with prgBanks := 1, mapper := m }
      decide (1 ≤ c.prgBanks) && c.mapper == m) = true ∧
    [0x8000, 0x9FFF, 0xA000, 0xBFFF, 0xC000, 0xDFFF, 0xE000, 0xFFFF].all (fun a : Word => decide (0x8000 ≤ a.toNat)) = true ∧
    (0x1FFF : BitVec 14).toNat < 0x2000 := by decide

theorem witness_Mmc3IrqCounter :
    (let m : Mmc3 := { Mmc3.initial .vertical with irqEnabled := true, irqLatch := 0xFF }
     m.irqCounter = 0 ∧ m.irqEnabled = true ∧ m.irqAsserted = false) ∧
    (let m : Mmc3 := { Mmc3.initial .vertical with irqReload := true }; m.irqReload = true) ∧
    (let m : Mmc3 := { Mmc3.initial .vertical with irqCounter := 1 }; m.irqCounter ≠ 0 ∧ m.irqReload = false) ∧
    (0x3EFF : BitVec 14).toNat < 0x3F00 ∧ 0x3F00 ≤ (0x3F00 : BitVec 14).toNat ∧
    [Mapper.nrom, .uxrom 0, .cnrom 0, .gxrom 0 0].all (fun m => m.number != 4) = true ∧
    (Mapper.mmc3 (Mmc3.initial .vertical)).number = 4 ∧
    (let m : Mmc3 := { Mmc3.initial .vertical with a12LowCycles := 3 }
     (0x1000 : BitVec 14).getLsbD 12 = true ∧ m.a12Prev = false ∧ 3 ≤ m.a12LowCycles) := by decide

/-- An image that loads: one PRG bank, CHR-RAM, mapper 0. -/
def goodImage : List Byte := [0x4E, 0x45, 0x53, 0x1A, 1, 0, 0, 0, 0, 0, 0, 0, 0, 0, 0, 0] ++ List.replicate 16384 0

theorem witness_CartridgeLoad :
    goodImage.take 4 = [0x4E, 0x45, 0x53, 0x1A] ∧ (goodImage.getD 6 0).getLsbD 3 = false ∧ (goodImage.getD 4 0).toNat ≠ 0 ∧
    (goodImage.getD 7 0).toNat / 16 * 16 + (goodImage.getD 6 0).toNat / 16 = 0 ∧
    16 + 16384 * (goodImage.getD 4 0).toNat + 8192 * (goodImage.getD 5 0).toNat ≤ goodImage.length ∧
    ([] : List Byte).take 4 ≠ [0x4E, 0x45, 0x53, 0x1A] := by
  have h4 : goodImage.getD 4 0 = 1 := rfl
  have h5 : goodImage.getD 5 0 = 0 := rfl
  have hl : goodImage.length = 16400 := by unfold goodImage; rw [List.length_append, List.length_replicate]; rfl
  exact ⟨rfl, rfl, by rw [h4]; decide, rfl, by rw [h4, h5, hl]; decide, by decide⟩

/-- The header of that image. -/
theorem goodImage_header : Header.ofImage goodImage = ⟨1, 0, .horizontal, false, false, false, 0, 1⟩ := rfl

/-- The image loads, with any parameters and any draw. -/
theorem goodImage_loads (params : Params) (draw : PowerOnState) : (hostLoad draw goodImage (powerOn params draw)).2 = none := by
  have hm : hasMagic goodImage = true := rfl
  have hl : goodImage.length = 16400 := by unfold goodImage; rw [List.length_append, List.length_replicate]; rfl
  unfold hostLoad loadImage
  simp [goodImage_header, hm, hl, Mapper.ofNumber, Header.declared, Header.chrOffset, Header.prgOffset]

theorem witness_InvariantAtReset :
    flagB Params.defaults.resetP = false ∧ flagU Params.defaults.resetP = true ∧
    (hostLoad .zero goodImage (powerOn Params.defaults .zero)).2 = none :=
  ⟨by decide, by decide, goodImage_loads _ _⟩

theorem witness_ResetResult : plain.cart = some (cartOf []) ∧ (hostReset plain).cart.isSome = true := by decide

/-- The vectors' machine meets the invariant. -/
theorem witness_StepKeepsInvariant : plain.Inv ∧ plain.Ready ∧ ¬ (teardown plain).Ready := by
  refine ⟨⟨⟨rfl, rfl⟩, witness_ppuAt (line := -1) (dot := 0) 0 0 (by decide) (by decide) (by decide), ?_, ⟨rfl, rfl⟩, ⟨rfl, rfl⟩, by decide,
    by decide⟩, rfl, by simp [State.Ready, teardown]⟩
  intro c hc
  obtain rfl := (Option.some.inj hc).symm
  exact ⟨by decide, by decide, ⟨rfl, by decide⟩, ⟨rfl, rfl⟩, fun m hm => (by cases hm), trivial⟩

theorem witness_StepNeverWritesRom : isNext (step plain) = true ∧ plain.cart = some (cartOf []) := by decide
theorem witness_DecimalFlagIsInert :
    Instr.plp.mnemonic ∉ [Mnemonic.php, Mnemonic.brk] ∧ (Instr.adcImm 0x99).mnemonic ∉ [Mnemonic.php, Mnemonic.brk] := by decide
theorem witness_ExecLeavesTheRest : (Instr.staAbs 0x4014).wellFormed = true ∧ Instr.rti.wellFormed = true := by decide

end Sys2Proof.Tests
end

namespace Sys2Proof.Machine

/-! ## What each instruction is made of

`exec` has 256 arms but few shapes (Machine/Operands.lean): the tables below name, by mnemonic, what runs inside each
shape, and `exec_meaning` says that nothing else occurs. A fact about every instruction is proved shape by shape. -/

/-- What follows the reading of an operand, by mnemonic. -/
inductive OperandEffect : Mnemonic → (State → Byte → State) → Prop
  | lda : OperandEffect .lda opLda
  | ldx : OperandEffect .ldx opLdx
  | ldy : OperandEffect .ldy opLdy
  | lax : OperandEffect .lax opLax
  | adc : OperandEffect .adc opAdc
  | sbc : OperandEffect .sbc opSbc
  | and_ : OperandEffect .and_ opAnd
  | ora : OperandEffect .ora opOra
  | eor : OperandEffect .eor opEor
  | bit : OperandEffect .bit opBit
  | cmp : OperandEffect .cmp opCmp
  | cpx : OperandEffect .cpx opCpx
  | cpy : OperandEffect .cpy opCpy
  | nop : OperandEffect .nop opNopRead

/-- What a store puts in memory, by mnemonic. -/
inductive StoredValue : Mnemonic → (State → Byte) → Prop
  | sta : StoredValue .sta State.valA
  | stx : StoredValue .stx State.valX
  | sty : StoredValue .sty State.valY
  | sax : StoredValue .sax State.valAX

/-- The function of a read-modify-write and what follows on its result, by mnemonic. -/
inductive ModifyEffect : Mnemonic → (Byte → Bool → ShiftResult) → (State → Byte → State) → Prop
  | asl : ModifyEffect .asl shiftLeft State.setNZ
  | lsr : ModifyEffect .lsr shiftRight State.setNZ
  | rol : ModifyEffect .rol rotateLeft State.setNZ
  | ror : ModifyEffect .ror rotateRight State.setNZ
  | inc : ModifyEffect .inc increment State.setNZ
  | dec : ModifyEffect .dec decrement State.setNZ
  | slo : ModifyEffect .slo shiftLeft opOra
  | rla : ModifyEffect .rla rotateLeft opAnd
  | sre : ModifyEffect .sre shiftRight opEor
  | rra : ModifyEffect .rra rotateRight State.addWithCarry
  | dcp : ModifyEffect .dcp decrement opCmp
  | isb : ModifyEffect .isb increment opSbc

/-- The condition of a branch, by mnemonic. -/
inductive BranchCondition : Mnemonic → (Byte → Bool) → Prop
  | bpl : BranchCondition .bpl condPl
  | bmi : BranchCondition .bmi condMi
  | bvc : BranchCondition .bvc condVc
  | bvs : BranchCondition .bvs condVs
  | bcc : BranchCondition .bcc condCc
  | bcs : BranchCondition .bcs condCs
  | bne : BranchCondition .bne condNe
  | beq : BranchCondition .beq condEq

/-- The effect of an instruction that reads no operand from memory, by mnemonic. -/
inductive ImpliedEffect : Mnemonic → (State → State) → Prop
  | inx : ImpliedEffect .inx opInx
  | iny : ImpliedEffect .iny opIny
  | dex : ImpliedEffect .dex opDex
  | dey : ImpliedEffect .dey opDey
  | tax : ImpliedEffect .tax opTax
  | tay : ImpliedEffect .tay opTay
  | txa : ImpliedEffect .txa opTxa
  | tya : ImpliedEffect .tya opTya
  | tsx : ImpliedEffect .tsx opTsx
  | txs : ImpliedEffect .txs opTxs
  | pha : ImpliedEffect .pha opPha
  | php : ImpliedEffect .php opPhp
  | pla : ImpliedEffect .pla opPla
  | plp : ImpliedEffect .plp opPlp
  | jmp (a : Word) : ImpliedEffect .jmp (opJmp a)
  | jmpInd (a : Word) : ImpliedEffect .jmp (opJmpInd a)
  | jsr (a : Word) : ImpliedEffect .jsr (opJsr a)
  | rts : ImpliedEffect .rts opRts
  | rti : ImpliedEffect .rti opRti
  | brk : ImpliedEffect .brk opBrk
  | clc : ImpliedEffect .clc opClc
  | sec : ImpliedEffect .sec opSec
  | cli : ImpliedEffect .cli opCli
  | sei : ImpliedEffect .sei opSei
  | clv : ImpliedEffect .clv opClv
  | cld : ImpliedEffect .cld opCld
  | sed : ImpliedEffect .sed opSed
  | nop : ImpliedEffect .nop opNop

/-- `e` is a meaning that a row with mnemonic `m` can have: one of the shapes, around an effect of `m`. -/
inductive Meaning (m : Mnemonic) (e : State → Result) : Prop
  | read {o : Source} {base : Nat} {flag : Bool} {f : State → Byte → State} (hf : OperandEffect m f)
      (he : ∀ s, e s = readShape o base flag f s)
  | store {mode : MemMode} {base : Nat} {v : State → Byte} (hv : StoredValue m v)
      (he : ∀ s, e s = storeShape mode base v s)
  | modify {o : Target} {base : Nat} {f : Byte → Bool → ShiftResult} {g : State → Byte → State}
      (hf : ModifyEffect m f g) (he : ∀ s, e s = rmwShape o base f g s)
  | branch {off : Byte} {base : Nat} {cond : Byte → Bool} (hc : BranchCondition m cond)
      (he : ∀ s, e s = branchShape off base cond s)
  | implied {base : Nat} {f : State → State} (hf : ImpliedEffect m f) (he : ∀ s, e s = impliedShape base f s)
  | unknown (hm : m = .unknown) (he : ∀ s, e s = .next s.raiseUnknownOpcode)

/-- Every instruction has one of the shapes, around the effect of its mnemonic (R311). -/
theorem exec_meaning : ∀ i : Instr, Meaning i.mnemonic (exec i)
  | .oraIzx _ | .oraZp _ | .oraImm _ | .oraAbs _ | .oraIzy _ | .oraZpx _ | .oraAbsy _ | .oraAbsx _
    => .read .ora fun _ => rfl
  | .nopZp04 _ | .nopAbs0C _ | .nopZpx14 _ | .nopAbsx1C _ | .nopZpx34 _ | .nopAbsx3C _ | .nopZp44 _ | .nopZpx54 _
  | .nopAbsx5C _ | .nopZp64 _ | .nopZpx74 _ | .nopAbsx7C _ | .nopImm80 _ | .nopZpxD4 _ | .nopAbsxDC _ | .nopZpxF4 _
  | .nopAbsxFC _ => .read .nop fun _ => rfl
  | .andIzx _ | .andZp _ | .andImm _ | .andAbs _ | .andIzy _ | .andZpx _ | .andAbsy _ | .andAbsx _
    => .read .and_ fun _ => rfl
  | .bitZp _ | .bitAbs _ => .read .bit fun _ => rfl
  | .eorIzx _ | .eorZp _ | .eorImm _ | .eorAbs _ | .eorIzy _ | .eorZpx _ | .eorAbsy _ | .eorAbsx _
    => .read .eor fun _ => rfl
  | .adcIzx _ | .adcZp _ | .adcImm _ | .adcAbs _ | .adcIzy _ | .adcZpx _ | .adcAbsy _ | .adcAbsx _
    => .read .adc fun _ => rfl
  | .ldyImm _ | .ldyZp _ | .ldyAbs _ | .ldyZpx _ | .ldyAbsx _ => .read .ldy fun _ => rfl
  | .ldaIzx _ | .ldaZp _ | .ldaImm _ | .ldaAbs _ | .ldaIzy _ | .ldaZpx _ | .ldaAbsy _ | .ldaAbsx _
    => .read .lda fun _ => rfl
  | .ldxImm _ | .ldxZp _ | .ldxAbs _ | .ldxZpy _ | .ldxAbsy _ => .read .ldx fun _ => rfl
  | .laxIzx _ | .laxZp _ | .laxAbs _ | .laxIzy _ | .laxZpy _ | .laxAbsy _ => .read .lax fun _ => rfl
  | .cpyImm _ | .cpyZp _ | .cpyAbs _ => .read .cpy fun _ => rfl
  | .cmpIzx _ | .cmpZp _ | .cmpImm _ | .cmpAbs _ | .cmpIzy _ | .cmpZpx _ | .cmpAbsy _ | .cmpAbsx _
    => .read .cmp fun _ => rfl
  | .cpxImm _ | .cpxZp _ | .cpxAbs _ => .read .cpx fun _ => rfl
  | .sbcIzx _ | .sbcZp _ | .sbcImm _ | .sbcImmEB _ | .sbcAbs _ | .sbcIzy _ | .sbcZpx _ | .sbcAbsy _ | .sbcAbsx _
    => .read .sbc fun _ => rfl
  | .staIzx _ | .staZp _ | .staAbs _ | .staIzy _ | .staZpx _ | .staAbsy _ | .staAbsx _ => .store .sta fun _ => rfl
  | .saxIzx _ | .saxZp _ | .saxAbs _ | .saxZpy _ => .store .sax fun _ => rfl
  | .styZp _ | .styAbs _ | .styZpx _ => .store .sty fun _ => rfl
  | .stxZp _ | .stxAbs _ | .stxZpy _ => .store .stx fun _ => rfl
  | .sloIzx _ | .sloZp _ | .sloAbs _ | .sloIzy _ | .sloZpx _ | .sloAbsy _ | .sloAbsx _ => .modify .slo fun _ => rfl
  | .aslZp _ | .aslAcc | .aslAbs _ | .aslZpx _ | .aslAbsx _ => .modify .asl fun _ => rfl
  | .rlaIzx _ | .rlaZp _ | .rlaAbs _ | .rlaIzy _ | .rlaZpx _ | .rlaAbsy _ | .rlaAbsx _ => .modify .rla fun _ => rfl
  | .rolZp _ | .rolAcc | .rolAbs _ | .rolZpx _ | .rolAbsx _ => .modify .rol fun _ => rfl
  | .sreIzx _ | .sreZp _ | .sreAbs _ | .sreIzy _ | .sreZpx _ | .sreAbsy _ | .sreAbsx _ => .modify .sre fun _ => rfl
  | .lsrZp _ | .lsrAcc | .lsrAbs _ | .lsrZpx _ | .lsrAbsx _ => .modify .lsr fun _ => rfl
  | .rraIzx _ | .rraZp _ | .rraAbs _ | .rraIzy _ | .rraZpx _ | .rraAbsy _ | .rraAbsx _ => .modify .rra fun _ => rfl
  | .rorZp _ | .rorAcc | .rorAbs _ | .rorZpx _ | .rorAbsx _ => .modify .ror fun _ => rfl
  | .dcpIzx _ | .dcpZp _ | .dcpAbs _ | .dcpIzy _ | .dcpZpx _ | .dcpAbsy _ | .dcpAbsx _ => .modify .dcp fun _ => rfl
  | .decZp _ | .decAbs _ | .decZpx _ | .decAbsx _ => .modify .dec fun _ => rfl
  | .isbIzx _ | .isbZp _ | .isbAbs _ | .isbIzy _ | .isbZpx _ | .isbAbsy _ | .isbAbsx _ => .modify .isb fun _ => rfl
  | .incZp _ | .incAbs _ | .incZpx _ | .incAbsx _ => .modify .inc fun _ => rfl
  | .bpl _ => .branch .bpl fun _ => rfl
  | .bmi _ => .branch .bmi fun _ => rfl
  | .bvc _ => .branch .bvc fun _ => rfl
  | .bvs _ => .branch .bvs fun _ => rfl
  | .bcc _ => .branch .bcc fun _ => rfl
  | .bcs _ => .branch .bcs fun _ => rfl
  | .bne _ => .branch .bne fun _ => rfl
  | .beq _ => .branch .beq fun _ => rfl
  | .brk => .implied .brk fun _ => rfl
  | .nopImp1A | .nopImp3A | .nopImp5A | .nopImp7A | .nopImpDA | .nopImp | .nopImpFA => .implied .nop fun _ => rfl
  | .php => .implied .php fun _ => rfl
  | .clc => .implied .clc fun _ => rfl
  | .jsr _ => .implied (.jsr _) fun _ => rfl
  | .plp => .implied .plp fun _ => rfl
  | .sec => .implied .sec fun _ => rfl
  | .rti => .implied .rti fun _ => rfl
  | .pha => .implied .pha fun _ => rfl
  | .jmpAbs _ => .implied (.jmp _) fun _ => rfl
  | .jmpInd _ => .implied (.jmpInd _) fun _ => rfl
  | .cli => .implied .cli fun _ => rfl
  | .rts => .implied .rts fun _ => rfl
  | .pla => .implied .pla fun _ => rfl
  | .sei => .implied .sei fun _ => rfl
  | .dey => .implied .dey fun _ => rfl
  | .txa => .implied .txa fun _ => rfl
  | .tya => .implied .tya fun _ => rfl
  | .txs => .implied .txs fun _ => rfl
  | .tay => .implied .tay fun _ => rfl
  | .tax => .implied .tax fun _ => rfl
  | .clv => .implied .clv fun _ => rfl
  | .tsx => .implied .tsx fun _ => rfl
  | .iny => .implied .iny fun _ => rfl
  | .dex => .implied .dex fun _ => rfl
  | .cld => .implied .cld fun _ => rfl
  | .inx => .implied .inx fun _ => rfl
  | .sed => .implied .sed fun _ => rfl
  | .unknown02 | .unknown0B | .unknown12 | .unknown22 | .unknown2B | .unknown32 | .unknown42 | .unknown4B
  | .unknown52 | .unknown62 | .unknown6B | .unknown72 | .unknown82 | .unknown89 | .unknown8B | .unknown92
  | .unknown93 | .unknown9B | .unknown9C | .unknown9E | .unknown9F | .unknownAB | .unknownB2 | .unknownBB
  | .unknownC2 | .unknownCB | .unknownD2 | .unknownE2 | .unknownF2 => .unknown rfl fun _ => rfl

end Sys2Proof.Machine

namespace Sys2Proof.Machine

/-! ## A cartridge in the machine stays in

No access takes the cartridge out: reads and dots only snoop, writes put another version of it in its place. -/

@[simp] theorem afterPpuRead_cart_isSome (s : State) (a : BitVec 14) :
    (s.afterPpuRead a).cart.isSome = s.cart.isSome := by
  unfold State.afterPpuRead
  split
  · rfl
  · exact Option.isSome_map

@[simp] theorem afterRead_cart_isSome (s : State) (a : Word) : (s.afterRead a).cart.isSome = s.cart.isSome := by
  rcases afterRead_cart s a with h | ⟨b, h⟩ <;> rw [h]
  exact Option.isSome_map

@[simp] theorem ppuWrite_cart_isSome (s : State) (a : BitVec 14) (v : Byte) :
    (s.ppuWrite a v).cart.isSome = s.cart.isSome := by
  unfold State.ppuWrite
  split
  · rfl
  · have hs : (s.snoopPpuBus a).cart.isSome = s.cart.isSome := Option.isSome_map
    unfold State.ppuBusWrite
    split
    · next h => exact (Option.isSome_of_isSome_bind (Option.isSome_of_eq_some h)).symm.trans hs
    · split <;> exact hs

@[simp] theorem regWrite_cart_isSome (s : State) (r : BitVec 3) (v : Byte) :
    (s.regWrite r v).cart.isSome = s.cart.isSome := by
  unfold State.regWrite
  dsimp only
  split
  · unfold State.writeCtrl
    dsimp only
    split
    · rw [signalNmi_eq]; rfl
    · rfl
  case h_7 => exact ppuWrite_cart_isSome (s.refreshOpenBus v) _ v
  all_goals rfl

@[simp] theorem dmaBytes_cart_isSome (s : State) (page : Byte) (n : Nat) :
    (s.dmaBytes page n).cart.isSome = s.cart.isSome := by
  induction n with
  | zero => rfl
  | succ n ih => exact (afterRead_cart_isSome _ _).trans ih

@[simp] theorem busWrite_cart_isSome (s : State) (a : Word) (v : Byte) :
    (s.busWrite a v).cart.isSome = s.cart.isSome := by
  unfold State.busWrite
  split
  · next h => exact (Option.isSome_of_isSome_bind (Option.isSome_of_eq_some h)).symm
  · split
    · rfl
    · split
      · exact regWrite_cart_isSome s _ v
      · split
        · have h := dmaBytes_cart_isSome s v 256
          unfold State.oamDma
          generalize s.dmaBytes v 256 = t at h ⊢
          exact h
        · split
          · unfold State.writeStrobe; split <;> rfl
          · rfl

@[simp] theorem enterHandler_cart_isSome (s : State) (ret : Word) (status : Byte) (vec : Word) :
    (s.enterHandler ret status vec).cart.isSome = s.cart.isSome := by
  simp [State.enterHandler, State.afterRead16, push_eq, pushPc_eq]

@[simp] theorem interruptEntry_cart_isSome (s : State) (k : InterruptKind) :
    (s.interruptEntry k).cart.isSome = s.cart.isSome := by
  cases k <;> exact enterHandler_cart_isSome _ _ _ _

@[simp] theorem fetchInto_cart_isSome (s : State) (a : BitVec 14) (f : Ppu → Byte → Ppu) :
    (s.fetchInto a f).cart.isSome = s.cart.isSome := afterPpuRead_cart_isSome s a

@[simp] theorem backgroundStage_cart_isSome (s : State) : s.backgroundStage.cart.isSome = s.cart.isSome := by
  unfold State.backgroundStage
  split
  · unfold State.fetchPhase
    split
    case h_5 | h_6 => rfl
    all_goals exact fetchInto_cart_isSome _ _ _
  · split
    · exact afterPpuRead_cart_isSome _ _
    · rfl

@[simp] theorem spriteStage_cart_isSome (s : State) : s.spriteStage.cart.isSome = s.cart.isSome := by
  unfold State.spriteStage
  split
  · unfold State.spriteFetch
    dsimp only
    split
    · exact afterPpuRead_cart_isSome _ _
    · exact afterPpuRead_cart_isSome _ _
    · exact fetchInto_cart_isSome _ _ _
    · exact afterPpuRead_cart_isSome _ _
    · rfl
  · rfl

@[simp] theorem renderStages_cart_isSome (s : State) : s.renderStages.cart.isSome = s.cart.isSome :=
  (spriteStage_cart_isSome s.beforeSprites).trans (backgroundStage_cart_isSome s.shifted)

@[simp] theorem flagEvents_cart (s : State) : s.flagEvents.cart = s.cart := by rw [flagEvents_eq]

@[simp] theorem ppuStep_cart_isSome (s : State) : s.ppuStep.cart.isSome = s.cart.isSome := by
  unfold State.ppuStep
  dsimp only
  rw [pixelStage_cart]
  split
  · rw [renderStages_cart_isSome, flagEvents_cart]
  · rw [flagEvents_cart]

/-! ## The invariant through an instruction -/

/-- What follows an operand's reading works on the CPU alone. -/
theorem OperandEffect.frame {m : Mnemonic} {f : State → Byte → State} (hf : OperandEffect m f) (s : State) (v : Byte) :
    f s v = { s with cpu := (f s v).cpu } := by
  cases hf <;> rfl

theorem OperandEffect.keeps_inv {m : Mnemonic} {f : State → Byte → State} (hf : OperandEffect m f) {s : State}
    (h : s.Inv) (v : Byte) : (f s v).Inv := by
  cases hf with
  | lda => exact (h.setA v).setNZ v
  | ldx => exact (h.setX v).setNZ v
  | ldy => exact (h.setY v).setNZ v
  | lax => exact ((h.setA v).setX v).setNZ v
  | adc | sbc => exact h.addWithCarry _
  | and_ | ora | eor => exact (h.setA _).setNZ _
  | bit => exact h.setP (withV_stored (withN_stored (withZ_stored h.cpu _) _) _)
  | cmp | cpx | cpy => exact h.compare _ _
  | nop => exact h

/-- What follows a read-modify-write is `SetNZ` or the effect of an instruction that reads an operand. -/
theorem ModifyEffect.second {m : Mnemonic} {f : Byte → Bool → ShiftResult} {g : State → Byte → State}
    (hf : ModifyEffect m f g) : g = State.setNZ ∨ ∃ n, OperandEffect n g := by
  cases hf with
  | asl | lsr | rol | ror | inc | dec => exact .inl rfl
  | slo => exact .inr ⟨_, .ora⟩
  | rla => exact .inr ⟨_, .and_⟩
  | sre => exact .inr ⟨_, .eor⟩
  | rra => exact .inr ⟨_, .adc⟩
  | dcp => exact .inr ⟨_, .cmp⟩
  | isb => exact .inr ⟨_, .sbc⟩

theorem ModifyEffect.second_frame {m : Mnemonic} {f : Byte → Bool → ShiftResult} {g : State → Byte → State}
    (hf : ModifyEffect m f g) (s : State) (v : Byte) : g s v = { s with cpu := (g s v).cpu } := by
  rcases hf.second with rfl | ⟨_, hg⟩
  · rfl
  · exact hg.frame s v

theorem ModifyEffect.second_keeps_inv {m : Mnemonic} {f : Byte → Bool → ShiftResult} {g : State → Byte → State}
    (hf : ModifyEffect m f g) {s : State} (h : s.Inv) (v : Byte) : (g s v).Inv := by
  rcases hf.second with rfl | ⟨_, hg⟩
  · exact h.setNZ v
  · exact hg.keeps_inv h v

theorem ImpliedEffect.keeps_inv {m : Mnemonic} {f : State → State} (hf : ImpliedEffect m f) {s : State} (h : s.Inv) :
    (f s).Inv := by
  cases hf with
  | inx | dex | tax | tsx => exact (h.setX _).setNZ _
  | iny | dey | tay => exact (h.setY _).setNZ _
  | txa | tya => exact (h.setA _).setNZ _
  | txs => exact h.setSp _
  | pha | php => exact h.push _
  | pla => exact (h.afterPull.setA _).setNZ _
  | plp => exact h.afterPull.setP (pulledStatus_stored _)
  | jmp => exact h.setPc _
  | jmpInd => exact ((h.afterRead _).afterRead _).setPc _
  | jsr => exact (h.pushPc _).setPc _
  | rts => exact h.afterPull.afterPull.setPc _
  | rti => exact h.returnFromInterrupt
  | brk => exact h.enterHandler _ _ _
  | clc | sec => exact h.setP (withC_stored h.cpu _)
  | cli | sei => exact h.setP (withI_stored h.cpu _)
  | clv => exact h.setP (withV_stored h.cpu _)
  | cld | sed => exact h.setP (withD_stored h.cpu _)
  | nop => exact h

theorem ImpliedEffect.cart_isSome {m : Mnemonic} {f : State → State} (hf : ImpliedEffect m f) (s : State) :
    (f s).cart.isSome = s.cart.isSome := by
  cases hf with
  | pha | php => exact busWrite_cart_isSome _ _ _
  | pla | plp => exact afterRead_cart_isSome _ _
  | jmpInd | rts => exact (afterRead_cart_isSome _ _).trans (afterRead_cart_isSome _ _)
  | jsr => exact (busWrite_cart_isSome _ _ _).trans (busWrite_cart_isSome _ _ _)
  | rti => rw [opRti, returnFromInterrupt_eq]
  | brk => exact enterHandler_cart_isSome _ _ _ _
  | _ => rfl

theorem Source.after_cart_isSome (o : Source) (s : State) : (o.after s).cart.isSome = s.cart.isSome := by
  cases o with
  | imm b => rfl
  | mem mode => rw [Source.after_mem, afterRead_cart_isSome]

theorem Target.modify_cart_isSome (o : Target) (f : Byte → Bool → ShiftResult) (s : State) :
    (o.modify f s).cart.isSome = s.cart.isSome := by
  cases o with
  | acc => rfl
  | mem mode => simp [Target.modify_mem]

/-- `e` completes, keeps the invariant, and leaves a cartridge in or out as it was. -/
def Keeps (e : State → Result) : Prop :=
  ∀ s : State, s.Inv → ∃ t, e s = .next t ∧ t.Inv ∧ t.cart.isSome = s.cart.isSome

theorem Meaning.keeps {m : Mnemonic} {e : State → Result} (hm : Meaning m e) : Keeps e := by
  intro s h
  cases hm with
  | read hf he =>
    refine ⟨_, he s, (hf.keeps_inv (Source.after_inv h _) _).loadCycles _ _, ?_⟩
    rw [State.loadCycles_cart, hf.frame]
    exact Source.after_cart_isSome _ s
  | store hv he =>
    refine ⟨_, he s, ?_, ?_⟩ <;> rw [storeAt_eq]
    · exact (h.busWrite _ _).loadCycles _ _
    · exact busWrite_cart_isSome _ _ _
  | modify hf he =>
    refine ⟨_, he s, (hf.second_keeps_inv (Target.modify_inv h _ _) _).loadCycles _ _, ?_⟩
    rw [State.loadCycles_cart, hf.second_frame]
    exact Target.modify_cart_isSome _ _ s
  | branch hc he =>
    rw [he s, branchShape]
    split
    · exact ⟨_, rfl, (h.setPc _).loadCycles _ _, rfl⟩
    · exact ⟨_, rfl, h.loadCycles _ _, rfl⟩
  | implied hf he => exact ⟨_, he s, (hf.keeps_inv h).loadCycles _ _, hf.cart_isSome s⟩
  | unknown _ he => exact ⟨_, he s, h.raiseUnknownOpcode, rfl⟩

/-! ## The invariant through a CPU step and a bus call -/

theorem State.Inv.countDown {s : State} (h : s.Inv) : s.countDown.Inv :=
  ⟨h.cpu, h.ppu, h.cart, h.ram, h.vram, h.shift1_high, h.shift2_high⟩

theorem State.Inv.reportFailure {s : State} (h : s.Inv) : s.reportFailure.Inv :=
  ⟨h.cpu, h.ppu, h.cart, h.ram, h.vram, h.shift1_high, h.shift2_high⟩

theorem State.Inv.retire {s : State} (h : s.Inv) : s.retire.Inv := by
  unfold State.retire
  split
  · exact h.reportFailure
  · exact h.countDown

theorem State.Inv.afterFetchBytes {s : State} (h : s.Inv) (n : Nat) : (s.afterFetchBytes n).Inv := by
  induction n generalizing s with
  | zero => exact h
  | succ n ih => exact ih ((h.afterRead _).setPc _)

theorem State.Inv.afterFetch {s : State} (h : s.Inv) : s.afterFetch.Inv := by
  unfold State.afterFetch
  split
  · exact h.afterRead _
  all_goals exact h.afterFetchBytes _

theorem retire_cart (s : State) : s.retire.cart = s.cart := by
  unfold State.retire
  split <;> rfl

theorem afterFetchBytes_cart_isSome (s : State) (n : Nat) : (s.afterFetchBytes n).cart.isSome = s.cart.isSome := by
  induction n generalizing s with
  | zero => rfl
  | succ n ih => exact (ih _).trans (afterRead_cart_isSome s _)

theorem afterFetch_cart_isSome (s : State) : s.afterFetch.cart.isSome = s.cart.isSome := by
  unfold State.afterFetch
  split
  · exact afterRead_cart_isSome s _
  all_goals exact afterFetchBytes_cart_isSome s _

theorem runInstruction_keeps : Keeps runInstruction := by
  intro s h
  obtain ⟨t, ht, hi, hc⟩ := (exec_meaning s.fetched).keeps s.afterFetch h.afterFetch
  refine ⟨t.retire, ?_, hi.retire, ?_⟩
  · rw [runInstruction, ht]
  · rw [retire_cart, hc, afterFetch_cart_isSome]

theorem cpuStep_keeps : Keeps cpuStep := by
  intro s h
  unfold cpuStep
  split
  · exact ⟨_, rfl, h.reportFailure, rfl⟩
  · split
    · exact ⟨_, rfl, h.countDown, rfl⟩
    · split
      · exact ⟨_, rfl, (h.interruptEntry _).countDown, interruptEntry_cart_isSome s .nmi⟩
      · split
        · exact ⟨_, rfl, (h.interruptEntry _).countDown, interruptEntry_cart_isSome s .irq⟩
        · exact runInstruction_keeps s h

theorem State.Inv.beginCall {s : State} (h : s.Inv) : s.beginCall.Inv := by
  have h1 := h.ppuStep
  exact ⟨h1.cpu, h1.ppu, h1.cart, h1.ram, h1.vram, h1.shift1_high, h1.shift2_high⟩

theorem State.Inv.clockCartridge {s : State} (h : s.Inv) : s.clockCartridge.Inv := by
  refine h.withCart fun d hd => ?_
  obtain ⟨c, hc, rfl⟩ := Option.map_eq_some_iff.mp hd
  exact (h.cart c hc).cpuClock

theorem State.Inv.tick {s : State} (h : s.Inv) : s.tick.Inv :=
  ⟨h.cpu, h.ppu, h.cart, h.ram, h.vram, h.shift1_high, h.shift2_high⟩

/-- Without a cartridge a step is the fault (log 13). -/
theorem step_of_not_ready {s : State} (h : ¬ s.Ready) : step s = .fault .noCartridge := by
  have hn : s.cart.isNone = true := by simpa [State.Ready] using h
  rw [step, busCycle, if_pos hn]

/-- On every third call a step is the PPU's dot, a CPU step and the mapper's hook (R1301). -/
theorem step_of_cpu_call {s t : State} (hr : s.Ready) (hc : s.clock % 3 = 0) (ht : cpuStep s.beginCall = .next t) :
    step s = .next t.clockCartridge.tick := by
  have hn : ¬ s.cart.isNone = true := by simpa [State.Ready, Option.isSome_iff_ne_none] using hr
  rw [step, busCycle, if_neg hn, if_pos hc, ht]

/-- On the calls between, a step is the PPU's dot alone (R1301). -/
theorem step_of_ppu_call {s : State} (hr : s.Ready) (hc : s.clock % 3 ≠ 0) : step s = .next s.beginCall.tick := by
  have hn : ¬ s.cart.isNone = true := by simpa [State.Ready, Option.isSome_iff_ne_none] using hr
  rw [step, busCycle, if_neg hn, if_neg hc]

theorem step_keeps_inv {s : State} (hi : s.Inv) (hr : s.Ready) : ∃ t, step s = .next t ∧ t.Inv ∧ t.Ready := by
  have hb : s.beginCall.cart.isSome = true := (ppuStep_cart_isSome s).trans hr
  by_cases hc : s.clock % 3 = 0
  · obtain ⟨t, ht, hti, htc⟩ := cpuStep_keeps _ hi.beginCall
    exact ⟨_, step_of_cpu_call hr hc ht, hti.clockCartridge.tick, Option.isSome_map.trans (htc.trans hb)⟩
  · exact ⟨_, step_of_ppu_call hr hc, hi.beginCall.tick, hb⟩

/-- Settles O57: every stage of a bus call keeps the invariant and leaves the cartridge in, the CPU's part shape by
shape of its instruction. -/
theorem stepKeepsInvariant : Obligations.StepKeepsInvariant :=
  ⟨fun _ hi hr => step_keeps_inv hi hr, fun _ => step_of_not_ready⟩

end Sys2Proof.Machine

namespace Sys2Proof.Machine

/-! ## The decimal flag

`s.withDecimal d` differs from `s` in D alone. No access and no operand depends on it, and every flag update but a load
of P commutes with it, so every shape does. -/

/-- The state with D made `d` (R107). -/
def State.withDecimal (s : State) (d : Bool) : State := s.setP (withD s.cpu.p d)

/-! ### P with D replaced -/

theorem setBit_comm (p : Byte) {i j : Nat} (hi : i < 8) (hj : j < 8) (hij : i ≠ j) (b c : Bool) :
    setBit (setBit p i b) j c = setBit (setBit p j c) i b := by
  apply BitVec.eq_of_getLsbD_eq
  intro k hk
  simp only [getLsbD_setBit _ _ _ _ hi, getLsbD_setBit _ _ _ _ hj]
  by_cases h : k = i
  · simp [h, hij]
  · simp [h]

theorem withC_withD (p : Byte) (d c : Bool) : withC (withD p d) c = withD (withC p c) d :=
  setBit_comm p (by decide) (by decide) (by decide) d c

theorem withZ_withD (p : Byte) (d c : Bool) : withZ (withD p d) c = withD (withZ p c) d :=
  setBit_comm p (by decide) (by decide) (by decide) d c

theorem withI_withD (p : Byte) (d c : Bool) : withI (withD p d) c = withD (withI p c) d :=
  setBit_comm p (by decide) (by decide) (by decide) d c

theorem withV_withD (p : Byte) (d c : Bool) : withV (withD p d) c = withD (withV p c) d :=
  setBit_comm p (by decide) (by decide) (by decide) d c

theorem withN_withD (p : Byte) (d c : Bool) : withN (withD p d) c = withD (withN p c) d :=
  setBit_comm p (by decide) (by decide) (by decide) d c

/-- A second write of D is the one that stays. -/
theorem withD_withD (p : Byte) (d c : Bool) : withD (withD p d) c = withD p c := by
  apply BitVec.eq_of_getLsbD_eq
  intro k _
  simp only [getLsbD_withD]
  split <;> rfl

theorem flagC_withD (p : Byte) (d : Bool) : flagC (withD p d) = flagC p := getLsbD_withD p d 0
theorem flagZ_withD (p : Byte) (d : Bool) : flagZ (withD p d) = flagZ p := getLsbD_withD p d 1
theorem flagV_withD (p : Byte) (d : Bool) : flagV (withD p d) = flagV p := getLsbD_withD p d 6
theorem flagN_withD (p : Byte) (d : Bool) : flagN (withD p d) = flagN p := getLsbD_withD p d 7

theorem nzOf_withD (p v : Byte) (d : Bool) : nzOf (withD p d) v = withD (nzOf p v) d := by
  rw [nzOf, withZ_withD, withN_withD, nzOf]

theorem compareFlags_withD (p r m : Byte) (d : Bool) : compareFlags (withD p d) r m = withD (compareFlags p r m) d := by
  rw [compareFlags, withC_withD, withZ_withD, withN_withD, compareFlags]

theorem bitFlags_withD (p a m : Byte) (d : Bool) : bitFlags (withD p d) a m = withD (bitFlags p a m) d := by
  rw [bitFlags, withZ_withD, withN_withD, withV_withD, bitFlags]

theorem carryOut_withD (p : Byte) (r : ShiftResult) (d : Bool) : carryOut (withD p d) r = withD (carryOut p r) d := by
  unfold carryOut
  split
  · exact withC_withD p d _
  · rfl

theorem BranchCondition.ignores_decimal {m : Mnemonic} {cond : Byte → Bool} (hc : BranchCondition m cond) (p : Byte)
    (d : Bool) : cond (withD p d) = cond p := by
  cases hc with
  | bpl => exact congrArg not (flagN_withD p d)
  | bmi => exact flagN_withD p d
  | bvc => exact congrArg not (flagV_withD p d)
  | bvs => exact flagV_withD p d
  | bcc => exact congrArg not (flagC_withD p d)
  | bcs => exact flagC_withD p d
  | bne => exact congrArg not (flagZ_withD p d)
  | beq => exact flagZ_withD p d

/-! ### Accesses do not read P -/

theorem signalNmi_setP (s : State) (p : Byte) : (s.setP p).signalNmi = s.signalNmi.setP p := by
  unfold State.signalNmi
  rw [State.setP_ppu]
  split <;> rfl

theorem afterPpuRead_setP (s : State) (p : Byte) (a : BitVec 14) :
    (s.setP p).afterPpuRead a = (s.afterPpuRead a).setP p := by
  unfold State.afterPpuRead
  split <;> rfl

theorem afterRegRead_setP (s : State) (p : Byte) (r : BitVec 3) :
    (s.setP p).afterRegRead r = (s.afterRegRead r).setP p := by
  unfold State.afterRegRead
  split
  · rfl
  · dsimp only
    rw [State.setP_ppu, afterPpuRead_setP]
    rfl
  · rfl

theorem afterRead_setP (s : State) (p : Byte) (a : Word) : (s.setP p).afterRead a = (s.afterRead a).setP p := by
  have hc : (s.setP p).cartRead a = s.cartRead a := rfl
  unfold State.afterRead
  rw [hc]
  split
  · rfl
  · split
    · rfl
    · split
      · exact afterRegRead_setP s p _
      · split
        · rfl
        · split <;> rfl

theorem ppuWrite_setP (s : State) (p : Byte) (a : BitVec 14) (v : Byte) :
    (s.setP p).ppuWrite a v = (s.ppuWrite a v).setP p := by
  have hs : (s.setP p).snoopPpuBus a = (s.snoopPpuBus a).setP p := rfl
  unfold State.ppuWrite
  rw [hs]
  split
  · rfl
  · have hv : ((s.snoopPpuBus a).setP p).vramTarget a = (s.snoopPpuBus a).vramTarget a := rfl
    unfold State.ppuBusWrite
    rw [State.setP_cart, hv]
    split
    · rfl
    · split <;> rfl

theorem ite_signalNmi_setP (c : Bool) (s : State) (p : Byte) :
    (if c then s.signalNmi else s).setP p = if c then (s.setP p).signalNmi else s.setP p := by
  rw [signalNmi_setP]
  split <;> rfl

theorem writeCtrl_setP (s : State) (p : Byte) (v : Byte) : (s.setP p).writeCtrl v = (s.writeCtrl v).setP p := by
  symm
  exact ite_signalNmi_setP _ _ p

theorem regWrite_setP (s : State) (p : Byte) (r : BitVec 3) (v : Byte) :
    (s.setP p).regWrite r v = (s.regWrite r v).setP p := by
  have hr : (s.setP p).refreshOpenBus v = (s.refreshOpenBus v).setP p := rfl
  unfold State.regWrite
  dsimp only
  rw [hr]
  generalize s.refreshOpenBus v = t
  split
  case h_1 => exact writeCtrl_setP t p v
  case h_7 =>
    unfold State.writePpuData
    rw [State.setP_ppu, ppuWrite_setP]
    rfl
  all_goals rfl

theorem dmaBytes_setP (s : State) (p : Byte) (page : Byte) (n : Nat) :
    (s.setP p).dmaBytes page n = (s.dmaBytes page n).setP p := by
  induction n with
  | zero => rfl
  | succ n ih =>
    rw [State.dmaBytes, ih, State.dmaByte, afterRead_setP]
    rfl

theorem busWrite_setP (s : State) (p : Byte) (a : Word) (v : Byte) :
    (s.setP p).busWrite a v = (s.busWrite a v).setP p := by
  unfold State.busWrite
  rw [State.setP_cart]
  split
  · rfl
  · split
    · rfl
    · split
      · exact regWrite_setP s p _ v
      · split
        · rw [State.oamDma, State.oamDma, dmaBytes_setP]
          generalize s.dmaBytes v 256 = t
          rfl
        · split
          · unfold State.writeStrobe
            split <;> rfl
          · rfl

/-! ### Each operation commutes with a change of D -/

theorem busRead_withDecimal (s : State) (d : Bool) (a : Word) : (s.withDecimal d).busRead a = s.busRead a := rfl

theorem afterRead_withDecimal (s : State) (d : Bool) (a : Word) :
    (s.withDecimal d).afterRead a = (s.afterRead a).withDecimal d := by
  rw [State.withDecimal, afterRead_setP, State.withDecimal, afterRead_cpu]

theorem busWrite_withDecimal (s : State) (d : Bool) (a : Word) (v : Byte) :
    (s.withDecimal d).busWrite a v = (s.busWrite a v).withDecimal d := by
  rw [State.withDecimal, busWrite_setP, State.withDecimal, busWrite_cpu]

theorem setNZ_withDecimal (s : State) (d : Bool) (v : Byte) :
    (s.withDecimal d).setNZ v = (s.setNZ v).withDecimal d :=
  congrArg s.setP (nzOf_withD s.cpu.p v d)

theorem addWithCarry_withDecimal (s : State) (d : Bool) (v : Byte) :
    (s.withDecimal d).addWithCarry v = (s.addWithCarry v).withDecimal d := by
  have hs : addSum (withD s.cpu.p d) s.cpu.a v = addSum s.cpu.p s.cpu.a v := by
    rw [addSum, carryIn, flagC_withD, addSum, carryIn]
  have hp (c o : Bool) : withV (withC (withD s.cpu.p d) c) o = withD (withV (withC s.cpu.p c) o) d := by
    rw [withC_withD, withV_withD]
  simp only [State.addWithCarry_eq, State.withDecimal, State.setP_cpu, hs, hp]
  exact setNZ_withDecimal ((s.setP (withV (withC s.cpu.p _) _)).setA _) d _

theorem OperandEffect.withDecimal {m : Mnemonic} {f : State → Byte → State} (hf : OperandEffect m f) (s : State)
    (d : Bool) (v : Byte) : f (s.withDecimal d) v = (f s v).withDecimal d := by
  cases hf with
  | lda => exact setNZ_withDecimal (s.setA v) d v
  | ldx => exact setNZ_withDecimal (s.setX v) d v
  | ldy => exact setNZ_withDecimal (s.setY v) d v
  | lax => exact setNZ_withDecimal ((s.setA v).setX v) d v
  | adc | sbc => exact addWithCarry_withDecimal s d _
  | and_ | ora | eor => exact setNZ_withDecimal (s.setA _) d _
  | bit => exact congrArg s.setP (bitFlags_withD s.cpu.p s.cpu.a v d)
  | cmp | cpx | cpy => exact congrArg s.setP (compareFlags_withD s.cpu.p _ v d)
  | nop => rfl

theorem ModifyEffect.second_withDecimal {m : Mnemonic} {f : Byte → Bool → ShiftResult} {g : State → Byte → State}
    (hf : ModifyEffect m f g) (s : State) (d : Bool) (v : Byte) : g (s.withDecimal d) v = (g s v).withDecimal d := by
  rcases hf.second with rfl | ⟨_, hg⟩
  · exact setNZ_withDecimal s d v
  · exact hg.withDecimal s d v

theorem StoredValue.withDecimal {m : Mnemonic} {v : State → Byte} (hv : StoredValue m v) (s : State) (d : Bool) :
    v (s.withDecimal d) = v s := by
  cases hv <;> rfl

/-- The pointer reads of a mode are in work RAM, and its indexes are X and Y. -/
theorem memBase_withDecimal (mode : MemMode) (s : State) (d : Bool) :
    memBase mode (s.withDecimal d) = memBase mode s := by
  cases mode with
  | izx a | izy a => rw [memBase, zpPointer_eq, memBase, zpPointer_eq]; rfl
  | _ => rfl

theorem effAddr_withDecimal (mode : MemMode) (s : State) (d : Bool) :
    effAddr mode (s.withDecimal d) = effAddr mode s := by
  have h := memBase_withDecimal mode s d
  cases mode <;> simp only [effAddr, h] <;> rfl

/-! ### Each shape, and each instruction -/

theorem Source.value_withDecimal (o : Source) (s : State) (d : Bool) : o.value (s.withDecimal d) = o.value s := by
  cases o with
  | imm b => rfl
  | mem mode => rw [Source.value_mem, effAddr_withDecimal, busRead_withDecimal, Source.value_mem]

theorem Source.after_withDecimal (o : Source) (s : State) (d : Bool) :
    o.after (s.withDecimal d) = (o.after s).withDecimal d := by
  cases o with
  | imm b => rfl
  | mem mode => rw [Source.after_mem, effAddr_withDecimal, afterRead_withDecimal, Source.after_mem]

theorem Source.crossed_withDecimal (o : Source) (s : State) (d : Bool) : o.crossed (s.withDecimal d) = o.crossed s := by
  cases o with
  | imm b => rfl
  | mem mode => simp only [Source.crossed, pageCrossed, effAddr_withDecimal, memBase_withDecimal]

theorem Target.value_withDecimal (o : Target) (s : State) (d : Bool) : o.value (s.withDecimal d) = o.value s := by
  cases o with
  | acc => rfl
  | mem mode => rw [Target.value_mem, effAddr_withDecimal, busRead_withDecimal, Target.value_mem]

theorem Target.result_withDecimal (o : Target) (f : Byte → Bool → ShiftResult) (s : State) (d : Bool) :
    o.result f (s.withDecimal d) = o.result f s :=
  congrArg₂ f (o.value_withDecimal s d) (flagC_withD s.cpu.p d)

theorem carryOut_withDecimal (s : State) (d : Bool) (r : ShiftResult) :
    (s.withDecimal d).setP (carryOut (s.withDecimal d).cpu.p r) = (s.setP (carryOut s.cpu.p r)).withDecimal d :=
  congrArg s.setP (carryOut_withD s.cpu.p r d)

theorem Target.modify_withDecimal (o : Target) (f : Byte → Bool → ShiftResult) (s : State) (d : Bool) :
    o.modify f (s.withDecimal d) = (o.modify f s).withDecimal d := by
  unfold Target.modify
  rw [Target.result_withDecimal]
  cases o with
  | acc => exact carryOut_withDecimal (s.setA _) d _
  | mem mode =>
    simp only [afterMode_eq, effAddr_withDecimal, Target.value_withDecimal, afterRead_withDecimal, busWrite_withDecimal]
    exact carryOut_withDecimal _ d _

/-- Every effect without an operand in memory commutes with a change of D, but those that load P or push it. -/
theorem ImpliedEffect.withDecimal {m : Mnemonic} {f : State → State} (hf : ImpliedEffect m f)
    (hpush : m ∉ [Mnemonic.php, .brk]) (hwrite : m ∉ [Mnemonic.cld, .sed, .plp, .rti]) (s : State) (d : Bool) :
    f (s.withDecimal d) = (f s).withDecimal d := by
  cases hf with
  | inx | dex | tax | tsx => exact setNZ_withDecimal (s.setX _) d _
  | iny | dey | tay => exact setNZ_withDecimal (s.setY _) d _
  | txa | tya => exact setNZ_withDecimal (s.setA _) d _
  | txs | jmp | nop => rfl
  | pha => rw [opPha, push_eq, opPha, push_eq]; rfl
  | pla =>
    rw [opPla, afterPull_eq, pulled_eq, opPla, afterPull_eq, pulled_eq]
    exact setNZ_withDecimal ((s.setSp _).setA _) d _
  | jmpInd a =>
    rw [opJmpInd, afterIndirect, afterRead_withDecimal, afterRead_withDecimal, indirectTarget, afterRead_withDecimal]
    rfl
  | jsr => rw [opJsr, pushPc_eq, opJsr, pushPc_eq]; rfl
  | rts => rw [opRts, afterPullPc_eq, pulledPc_eq, opRts, afterPullPc_eq, pulledPc_eq]; rfl
  | clc | sec => exact congrArg s.setP (withC_withD s.cpu.p d _)
  | cli | sei => exact congrArg s.setP (withI_withD s.cpu.p d _)
  | clv => exact congrArg s.setP (withV_withD s.cpu.p d _)
  | php | brk => exact absurd hpush (by decide)
  | cld | sed | plp | rti => exact absurd hwrite (by decide)

/-- The effects that write D forget what it was. -/
theorem ImpliedEffect.forgets_decimal {m : Mnemonic} {f : State → State} (hf : ImpliedEffect m f)
    (hm : m ∈ [Mnemonic.cld, .sed, .plp, .rti]) (s : State) (d : Bool) : f (s.withDecimal d) = f s := by
  cases hf with
  | cld | sed => exact congrArg s.setP (withD_withD s.cpu.p d _)
  | plp => rw [opPlp, afterPull_eq, pulled_eq, opPlp, afterPull_eq, pulled_eq]; rfl
  | rti => rw [opRti, returnFromInterrupt_eq, opRti, returnFromInterrupt_eq]; rfl
  | _ => exact absurd hm (by decide)

/-- Shape by shape: from states that differ in D alone, the results do too, and not at all where D is written. -/
theorem Meaning.decimal_inert {m : Mnemonic} {e : State → Result} (he : Meaning m e) (hm : m ∉ [Mnemonic.php, .brk])
    (s : State) (d : Bool) :
    ∃ t, e s = .next t ∧
      e (s.withDecimal d) = .next (if m ∈ [Mnemonic.cld, .sed, .plp, .rti] then t else t.withDecimal d) := by
  cases he with
  | read hf he =>
    refine ⟨_, he s, ?_⟩
    rw [if_neg (by cases hf <;> decide), he, readShape, Source.after_withDecimal, Source.value_withDecimal,
      Source.crossed_withDecimal, hf.withDecimal]
    rfl
  | store hv he =>
    refine ⟨_, he s, ?_⟩
    rw [if_neg (by cases hv <;> decide), he, storeShape, storeAt_eq, effAddr_withDecimal, hv.withDecimal,
      busWrite_withDecimal, storeAt_eq]
    rfl
  | modify hf he =>
    refine ⟨_, he s, ?_⟩
    rw [if_neg (by cases hf <;> decide), he, rmwShape, Target.modify_withDecimal, Target.result_withDecimal,
      hf.second_withDecimal]
    rfl
  | branch hc he =>
    have hd := hc.ignores_decimal s.cpu.p d
    rw [he, he, branchShape, branchShape, State.withDecimal, State.setP_cpu]
    have hwrite : m ∉ [Mnemonic.cld, .sed, .plp, .rti] := by cases hc <;> decide
    simp only [hd, if_neg hwrite]
    split <;> exact ⟨_, rfl, rfl⟩
  | implied hf he =>
    refine ⟨_, he s, ?_⟩
    rw [he, impliedShape]
    split
    · next hwrite => rw [hf.forgets_decimal hwrite]
    · next hwrite => rw [hf.withDecimal hm hwrite]; rfl
  | unknown hu he =>
    refine ⟨_, he s, ?_⟩
    rw [hu, he]
    rfl

/-- Settles O59: by the shape of the instruction's meaning. -/
theorem decimalFlagIsInert : Obligations.DecimalFlagIsInert :=
  fun i s d hm => (exec_meaning i).decimal_inert hm s d

end Sys2Proof.Machine

namespace Sys2Proof.Machine

/-! ## What no instruction touches

`s.rest` is `s` with everything blanked that an instruction can reach: registers, memories, the cartridge, the gamepads,
and the PPU's registers. No access and no effect changes what is left, so two states with one `rest` agree in every
other field. -/

/-- The PPU without what CPU accesses reach: its registers and their flags, OAM and the palette (R1000, R1320). -/
def Ppu.rest (p : Ppu) : Ppu :=
  { p with
    ctrl := 0, mask := 0, vbl := false, sprite0Hit := false, overflow := false, oamAddr := 0, v := 0, t := 0, fineX := 0
    w := false, readBuffer := 0, openBus := 0, openBusAge := 0, oam := [], palette := Vector.replicate 32 0
    vblSuppress := false }

/-- The machine without what an instruction reaches: of the CPU the fault latch and the cycle counter are left (R111,
R113), of the PPU `Ppu.rest`. -/
def State.rest (s : State) : State :=
  { s with
    cpu := { Cpu.reset with halted := s.cpu.halted, cycleCount := s.cpu.cycleCount }
    ppu := s.ppu.rest
    cart := none, ram := [], vram := [], strobe := false, shift1 := 0, shift2 := 0 }

/-! ### Accesses -/

@[simp] theorem afterRead_rest (s : State) (a : Word) : (s.afterRead a).rest = s.rest := by
  have hp : (s.afterRead a).ppu.rest = s.ppu.rest := by
    rcases afterRead_ppu s a with h | h | ⟨b, h⟩ <;> rw [h] <;> rfl
  rw [State.rest, hp, afterRead_eq]
  rfl

theorem signalNmi_rest (s : State) : s.signalNmi.rest = s.rest := by
  rw [signalNmi_eq]
  rfl

theorem writeCtrl_rest (s : State) (v : Byte) : (s.writeCtrl v).rest = s.rest := by
  unfold State.writeCtrl
  dsimp only
  split
  · exact signalNmi_rest _
  · rfl

theorem writeOamData_rest (p : Ppu) (v : Byte) : (p.writeOamData v).rest = p.rest := by
  unfold Ppu.writeOamData
  split <;> rfl

theorem writeScroll_rest (p : Ppu) (v : Byte) : (p.writeScroll v).rest = p.rest := by
  unfold Ppu.writeScroll
  split <;> rfl

theorem writeAddr_rest (p : Ppu) (v : Byte) : (p.writeAddr v).rest = p.rest := by
  unfold Ppu.writeAddr
  split <;> rfl

theorem writePpuData_rest (s : State) (v : Byte) : (s.writePpuData v).rest = s.rest := by
  rw [State.writePpuData, ppuWrite_eq]
  rfl

/-- A PPU that keeps its `rest` may be put in the state. -/
theorem withPpu_rest (s : State) {p : Ppu} (h : p.rest = s.ppu.rest) : ({ s with ppu := p } : State).rest = s.rest := by
  rw [State.rest, h]
  rfl

theorem regWrite_rest (s : State) (r : BitVec 3) (v : Byte) : (s.regWrite r v).rest = s.rest := by
  have ho : (s.refreshOpenBus v).rest = s.rest := rfl
  rw [← ho]
  unfold State.regWrite
  dsimp only
  generalize s.refreshOpenBus v = t
  split
  case h_1 => exact writeCtrl_rest t v
  case h_4 => exact withPpu_rest t (writeOamData_rest t.ppu v)
  case h_5 => exact withPpu_rest t (writeScroll_rest t.ppu v)
  case h_6 => exact withPpu_rest t (writeAddr_rest t.ppu v)
  case h_7 => exact writePpuData_rest t v
  all_goals rfl

theorem dmaBytes_rest (s : State) (page : Byte) (n : Nat) : (s.dmaBytes page n).rest = s.rest := by
  induction n with
  | zero => rfl
  | succ n ih => exact (afterRead_rest _ _).trans ih

theorem oamDma_rest (s : State) (page : Byte) : (s.oamDma page).rest = s.rest := by
  rw [← dmaBytes_rest s page 256, State.oamDma]
  generalize s.dmaBytes page 256 = t
  rfl

theorem writeStrobe_rest (s : State) (v : Byte) : (s.writeStrobe v).rest = s.rest := by
  unfold State.writeStrobe
  split <;> rfl

/-- Wherever a CPU write goes (R1311), it stays within what `rest` blanks. -/
@[simp] theorem busWrite_rest (s : State) (a : Word) (v : Byte) : (s.busWrite a v).rest = s.rest := by
  unfold State.busWrite
  split
  · rfl
  · split
    · rfl
    · split
      · exact regWrite_rest s _ v
      · split
        · exact oamDma_rest s v
        · split
          · exact writeStrobe_rest s v
          · rfl

/-! ### Effects -/

theorem OperandEffect.rest {m : Mnemonic} {f : State → Byte → State} (hf : OperandEffect m f) (s : State) (v : Byte) :
    (f s v).rest = s.rest := by
  cases hf <;> rfl

theorem ModifyEffect.second_rest {m : Mnemonic} {f : Byte → Bool → ShiftResult} {g : State → Byte → State}
    (hf : ModifyEffect m f g) (s : State) (v : Byte) : (g s v).rest = s.rest := by
  rcases hf.second with rfl | ⟨_, hg⟩
  · rfl
  · exact hg.rest s v

theorem Source.after_rest (o : Source) (s : State) : (o.after s).rest = s.rest := by
  cases o with
  | imm b => rfl
  | mem mode => rw [Source.after_mem, afterRead_rest]

theorem Target.modify_rest (o : Target) (f : Byte → Bool → ShiftResult) (s : State) : (o.modify f s).rest = s.rest := by
  cases o with
  | acc => rfl
  | mem mode =>
    rw [Target.modify_mem]
    exact ((busWrite_rest _ _ _).trans (busWrite_rest _ _ _)).trans (afterRead_rest _ _)

/-- The stack and the vectors are reached by ordinary accesses. -/
theorem ImpliedEffect.rest {m : Mnemonic} {f : State → State} (hf : ImpliedEffect m f) (s : State) :
    (f s).rest = s.rest := by
  cases hf with
  | pha | php => exact busWrite_rest _ _ _
  | pla | plp => exact afterRead_rest (s.setSp _) _
  | jmpInd => exact (afterRead_rest _ _).trans (afterRead_rest _ _)
  | jsr => rw [opJsr, pushPc_eq]; rfl
  | rts => rw [opRts, afterPullPc_eq]; rfl
  | rti => rw [opRti, returnFromInterrupt_eq]; rfl
  | brk => rw [opBrk, enterHandler_eq _ _ _ _ (by decide) (by decide)]; rfl
  | _ => rfl

/-- Every instruction with a descriptor completes and leaves the rest of the machine as it was. -/
theorem Meaning.rest {m : Mnemonic} {e : State → Result} (he : Meaning m e) (hm : m ≠ .unknown) (s : State) :
    ∃ t, e s = .next t ∧ t.rest = s.rest := by
  cases he with
  | read hf he => exact ⟨_, he s, (hf.rest _ _).trans (Source.after_rest _ s)⟩
  | store hv he => exact ⟨_, he s, by rw [storeAt_eq]; exact busWrite_rest s _ _⟩
  | modify hf he => exact ⟨_, he s, (hf.second_rest _ _).trans (Target.modify_rest _ _ s)⟩
  | branch hc he =>
    rw [he s, branchShape]
    split <;> exact ⟨_, rfl, rfl⟩
  | implied hf he => exact ⟨_, he s, hf.rest s⟩
  | unknown hu he => exact absurd hu hm

/-! ### The cycle count -/

/-- Every row with a descriptor takes two cycles or more (R311). -/
theorem two_le_base {i : Instr} (h : i.wellFormed = true) : 2 ≤ i.row.base := by
  have htable : (!i.wellFormed || Nat.ble 2 i.row.base) = true := by cases i <;> rfl
  rw [h] at htable
  exact Nat.le_of_ble_eq_true htable

theorem branchShape_loads (off : Byte) (base : Nat) (cond : Byte → Bool) (s : State) :
    ∃ (u : State) (extra : Nat), branchShape off base cond s = .next (u.loadCycles base extra) := by
  unfold branchShape
  split <;> exact ⟨_, _, rfl⟩

/-- Every instruction with a descriptor ends by loading its row's count (R440). -/
theorem exec_loads_base {i : Instr} (h : i.wellFormed = true) (s : State) :
    ∃ (u : State) (extra : Nat), exec i s = .next (u.loadCycles i.row.base extra) := by
  cases i with
  | bpl | bmi | bvc | bvs | bcc | bcs | bne | beq => exact branchShape_loads _ _ _ s
  | unknown02 | unknown0B | unknown12 | unknown22 | unknown2B | unknown32 | unknown42 | unknown4B | unknown52 | unknown62
  | unknown6B | unknown72 | unknown82 | unknown89 | unknown8B | unknown92 | unknown93 | unknown9B | unknown9C | unknown9E
  | unknown9F | unknownAB | unknownB2 | unknownBB | unknownC2 | unknownCB | unknownD2 | unknownE2 | unknownF2 => cases h
  | _ => exact ⟨_, _, rfl⟩

/-- No stolen cycle is left to add, and the instruction takes its row's count at least (R440). -/
theorem exec_takes_base {i : Instr} (h : i.wellFormed = true) {s t : State} (ht : exec i s = .next t) :
    t.cpu.dmaStall = 0 ∧ i.row.base ≤ t.cpu.cycles := by
  obtain ⟨u, extra, hu⟩ := exec_loads_base h s
  rw [ht] at hu
  injection hu with hu
  subst hu
  exact ⟨rfl, (Nat.le_add_right _ extra).trans (Nat.le_add_right _ u.cpu.dmaStall)⟩

/-- Settles O60: every shape keeps `State.rest`, where the fields named are read, and loads its row's count. -/
theorem execLeavesTheRest : Obligations.ExecLeavesTheRest := by
  intro i s h
  have hm : i.mnemonic ≠ .unknown := by simpa [Instr.wellFormed] using h
  obtain ⟨t, ht, hr⟩ := (exec_meaning i).rest hm s
  obtain ⟨hstall, hcycles⟩ := exec_takes_base h ht
  have field {α : Type} (f : State → α) : f t.rest = f s.rest := congrArg f hr
  exact ⟨t, ht, field (·.ppu.scanline), field (·.ppu.dot), field (·.ppu.frame), field (·.ppu.bgPatLo),
    field (·.ppu.bgPatHi), field (·.ppu.bgAttrLo), field (·.ppu.bgAttrHi), field (·.ppu.ntNext), field (·.ppu.atNext),
    field (·.ppu.patLoNext), field (·.ppu.patHiNext), field (·.ppu.slots), field (·.ppu.sprCount),
    field (·.ppu.sprZeroInLine), field (·.ppu.secOam), field (·.ppu.secCount), field (·.ppu.secHasZero),
    field (·.clock), field (·.result), field (·.pixel), field (·.freeCount), field (·.cpu.halted),
    field (·.cpu.cycleCount), hstall, (two_le_base h).trans hcycles⟩

/-! ## The frame of a reading instruction -/

/-- What follows the reading of an operand touches neither the stack pointer nor PC, the latches or the counter. -/
theorem OperandEffect.keeps_control {m : Mnemonic} {f : State → Byte → State} (hf : OperandEffect m f) (s : State)
    (v : Byte) :
    (f s v).cpu.sp = s.cpu.sp ∧ (f s v).cpu.pc = s.cpu.pc ∧ (f s v).cpu.halted = s.cpu.halted ∧
      (f s v).cpu.nmiPending = s.cpu.nmiPending ∧ (f s v).cpu.cycleCount = s.cpu.cycleCount := by
  cases hf <;> exact ⟨rfl, rfl, rfl, rfl, rfl⟩

/-- Only LDX and LAX write X. -/
theorem OperandEffect.keeps_x {m : Mnemonic} {f : State → Byte → State} (hf : OperandEffect m f)
    (hm : m ∉ [Mnemonic.ldx, .lax]) (s : State) (v : Byte) : (f s v).cpu.x = s.cpu.x := by
  cases hf with
  | ldx | lax => exact absurd hm (by decide)
  | _ => rfl

/-- Only LDY writes Y. -/
theorem OperandEffect.keeps_y {m : Mnemonic} {f : State → Byte → State} (hf : OperandEffect m f) (hm : m ≠ .ldy)
    (s : State) (v : Byte) : (f s v).cpu.y = s.cpu.y := by
  cases hf with
  | ldy => exact absurd rfl hm
  | _ => rfl

/-- The loads into X and Y, the compares, BIT and NOP leave A. -/
theorem OperandEffect.keeps_a {m : Mnemonic} {f : State → Byte → State} (hf : OperandEffect m f)
    (hm : m ∈ [Mnemonic.ldx, .ldy, .bit, .cmp, .cpx, .cpy, .nop]) (s : State) (v : Byte) : (f s v).cpu.a = s.cpu.a := by
  cases hf with
  | ldx | ldy | bit | cmp | cpx | cpy | nop => rfl
  | _ => exact absurd hm (by decide)

/-- A NOP writes no flag (R921). -/
theorem OperandEffect.keeps_p {m : Mnemonic} {f : State → Byte → State} (hf : OperandEffect m f) (hm : m = .nop)
    (s : State) (v : Byte) : (f s v).cpu.p = s.cpu.p := by
  subst hm
  cases hf
  rfl

theorem OperandEffect.byteAt {m : Mnemonic} {f : State → Byte → State} (hf : OperandEffect m f) (s : State) (v : Byte)
    (sp : Space) (j : Nat) : (f s v).byteAt sp j = s.byteAt sp j := by
  rw [hf.frame]
  rfl

theorem Source.after_byteAt (o : Source) (s : State) (sp : Space) (j : Nat) :
    (o.after s).byteAt sp j = s.byteAt sp j := by
  cases o with
  | imm b => rfl
  | mem mode => rw [Source.after_mem, afterRead_byteAt]

/-- A register read changes something only at PPUSTATUS and PPUDATA (R1003, R1030). -/
theorem afterRegRead_of_pure (s : State) {r : BitVec 3} (h2 : r.toNat ≠ 2) (h7 : r.toNat ≠ 7) : s.afterRegRead r = s := by
  unfold State.afterRegRead
  split
  · next h => exact absurd h h2
  · next h => exact absurd h h7
  · rfl

/-- From $4000 up only the two controllers' ports have a read effect (R1310, R1330). -/
theorem afterRead_of_not_pad (s : State) {a : Word} (h : 0x4000 ≤ a.toNat) (h1 : a ≠ 0x4016) (h2 : a ≠ 0x4017) :
    s.afterRead a = s := by
  unfold State.afterRead
  rw [if_neg (by omega), if_neg (by omega), if_neg h1, if_neg h2]
  split <;> rfl

/-- A read at a PPU register does what the register does (R1000, R1310). -/
theorem afterRead_of_ppuReg (s : State) {a : Word} (hlo : 0x2000 ≤ a.toNat) (hhi : a.toNat ≤ 0x3FFF) :
    s.afterRead a = s.afterRegRead (ppuRegOf a) := by
  simp only [State.afterRead, cartRead_of_lt s a (by omega), if_neg (show ¬ a.toNat ≤ 0x1FFF by omega), if_pos hhi]

/-- The CPU addresses whose reads have an effect are PPUSTATUS, PPUDATA, their mirrors and the controllers (R221). -/
theorem afterRead_of_no_effect (s : State) (a : Word)
    (h : a.toNat ≤ 0x1FFF ∨ (0x2000 ≤ a.toNat ∧ a.toNat ≤ 0x3FFF ∧ a.toNat % 8 ≠ 2 ∧ a.toNat % 8 ≠ 7) ∨
      (0x4000 ≤ a.toNat ∧ a.toNat ≤ 0x4015) ∨ 0x4018 ≤ a.toNat) : s.afterRead a = s := by
  have pad {b : Word} (hb : a.toNat ≠ b.toNat) : a ≠ b := fun e => hb (congrArg BitVec.toNat e)
  rcases h with h | ⟨hlo, hhi, h2, h7⟩ | ⟨hlo, hhi⟩ | h
  · exact afterRead_of_ram s a h
  · rw [← toNat_ppuRegOf] at h2 h7
    rw [afterRead_of_ppuReg s hlo hhi, afterRegRead_of_pure s h2 h7]
  · exact afterRead_of_not_pad s hlo (pad (by simp; omega)) (pad (by simp; omega))
  · exact afterRead_of_not_pad s (by omega) (pad (by simp; omega)) (pad (by simp; omega))

/-- A reading instruction reads its row's operand, and then has the effect of its mnemonic. -/
theorem exec_reading {i : Instr} {o : Source} (ho : i.row.operand.source = some o)
    (hm : i.mnemonic ∈ [.lda, .ldx, .ldy, .lax, .adc, .sbc, .and_, .ora, .eor, .bit, .cmp, .cpx, .cpy, .nop]) (s : State) :
    ∃ f, OperandEffect i.mnemonic f ∧ exec i s = readShape o i.row.base i.row.pageCross f s := by
  simp only [List.mem_cons, List.not_mem_nil, or_false] at hm
  rcases hm with h | h | h | h | h | h | h | h | h | h | h | h | h | h
  · exact ⟨_, h ▸ .lda, exec_lda s h ho⟩
  · exact ⟨_, h ▸ .ldx, exec_ldx s h ho⟩
  · exact ⟨_, h ▸ .ldy, exec_ldy s h ho⟩
  · exact ⟨_, h ▸ .lax, exec_lax s h ho⟩
  · exact ⟨_, h ▸ .adc, exec_adc s h ho⟩
  · exact ⟨_, h ▸ .sbc, exec_sbc s h ho⟩
  · exact ⟨_, h ▸ .and_, exec_and s h ho⟩
  · exact ⟨_, h ▸ .ora, exec_ora s h ho⟩
  · exact ⟨_, h ▸ .eor, exec_eor s h ho⟩
  · exact ⟨_, h ▸ .bit, exec_bit s h ho⟩
  · exact ⟨_, h ▸ .cmp, exec_cmp s h ho⟩
  · exact ⟨_, h ▸ .cpx, exec_cpx s h ho⟩
  · exact ⟨_, h ▸ .cpy, exec_cpy s h ho⟩
  · exact ⟨_, h ▸ .nop, exec_nop s h ho⟩

/-- Settles O27: the operand's reads change no byte and no register, and the effect that follows works on A, X, Y and
P alone. -/
theorem readingInstructionFrame : Obligations.ReadingInstructionFrame := by
  intro i s t o ho hm ht
  obtain ⟨f, hf, he⟩ := exec_reading ho hm s
  rw [he] at ht
  injection ht with ht
  subst ht
  have hcpu := o.after_cpu s
  obtain ⟨hsp, hpc, hhalted, hnmi, hcount⟩ := hf.keeps_control (o.after s) (o.value s)
  rw [Source.after_cpu] at hsp hpc hhalted hnmi hcount
  refine ⟨fun sp j => ?_, hsp, hpc, hhalted, hnmi, hcount, fun hx => ?_, fun hy => ?_, fun ha => ?_, fun hp => ?_, ?_⟩
  · exact (hf.byteAt _ _ sp j).trans (o.after_byteAt s sp j)
  · exact (hf.keeps_x hx _ _).trans (congrArg Cpu.x hcpu)
  · exact (hf.keeps_y hy _ _).trans (congrArg Cpu.y hcpu)
  · exact (hf.keeps_a ha _ _).trans (congrArg Cpu.a hcpu)
  · exact (hf.keeps_p hp _ _).trans (congrArg Cpu.p hcpu)
  · rintro mode rfl ea hea
    have hafter : (Source.mem mode).after s = s := by rw [Source.after_mem, afterRead_of_no_effect s _ hea]
    rw [hafter, hf.frame]
    rfl

end Sys2Proof.Machine

namespace Sys2Proof.Laws.RowReads

/-! ## The decoder and the laws of the rows -/

/-- The row of every instruction's opcode byte builds that instruction from its operand bytes: one law of this
namespace for each constructor, in the order of `Instr`. -/
theorem build_rowOf_opcode (i : Instr) : Statement i :=
  Instr.casesOn (motive := Statement) i
    oraIzx sloIzx nopZp04 oraZp aslZp sloZp oraImm nopAbs0C oraAbs aslAbs sloAbs bpl oraIzy sloIzy nopZpx14 oraZpx
    aslZpx sloZpx oraAbsy sloAbsy nopAbsx1C oraAbsx aslAbsx sloAbsx jsr andIzx rlaIzx bitZp andZp rolZp rlaZp andImm
    bitAbs andAbs rolAbs rlaAbs bmi andIzy rlaIzy nopZpx34 andZpx rolZpx rlaZpx andAbsy rlaAbsy nopAbsx3C andAbsx
    rolAbsx rlaAbsx eorIzx sreIzx nopZp44 eorZp lsrZp sreZp eorImm jmpAbs eorAbs lsrAbs sreAbs bvc eorIzy sreIzy
    nopZpx54 eorZpx lsrZpx sreZpx eorAbsy sreAbsy nopAbsx5C eorAbsx lsrAbsx sreAbsx adcIzx rraIzx nopZp64 adcZp rorZp
    rraZp adcImm jmpInd adcAbs rorAbs rraAbs bvs adcIzy rraIzy nopZpx74 adcZpx rorZpx rraZpx adcAbsy rraAbsy
    nopAbsx7C adcAbsx rorAbsx rraAbsx nopImm80 staIzx saxIzx styZp staZp stxZp saxZp styAbs staAbs stxAbs saxAbs bcc
    staIzy styZpx staZpx stxZpy saxZpy staAbsy staAbsx ldyImm ldaIzx ldxImm laxIzx ldyZp ldaZp ldxZp laxZp ldaImm
    ldyAbs ldaAbs ldxAbs laxAbs bcs ldaIzy laxIzy ldyZpx ldaZpx ldxZpy laxZpy ldaAbsy ldyAbsx ldaAbsx ldxAbsy laxAbsy
    cpyImm cmpIzx dcpIzx cpyZp cmpZp decZp dcpZp cmpImm cpyAbs cmpAbs decAbs dcpAbs bne cmpIzy dcpIzy nopZpxD4 cmpZpx
    decZpx dcpZpx cmpAbsy dcpAbsy nopAbsxDC cmpAbsx decAbsx dcpAbsx cpxImm sbcIzx isbIzx cpxZp sbcZp incZp isbZp
    sbcImm sbcImmEB cpxAbs sbcAbs incAbs isbAbs beq sbcIzy isbIzy nopZpxF4 sbcZpx incZpx isbZpx sbcAbsy isbAbsy
    nopAbsxFC sbcAbsx incAbsx isbAbsx brk php aslAcc clc nopImp1A plp rolAcc sec nopImp3A rti pha lsrAcc cli nopImp5A
    rts pla rorAcc sei nopImp7A dey txa tya txs tay tax clv tsx iny dex cld nopImpDA inx nopImp sed nopImpFA
    unknown02 unknown0B unknown12 unknown22 unknown2B unknown32 unknown42 unknown4B unknown52 unknown62 unknown6B
    unknown72 unknown82 unknown89 unknown8B unknown92 unknown93 unknown9B unknown9C unknown9E unknown9F unknownAB
    unknownB2 unknownBB unknownC2 unknownCB unknownD2 unknownE2 unknownF2

/-- Operand bytes that a row takes, after its opcode byte, decode to what the row builds (R303). -/
theorem decode_of_build {op : Byte} {operand : List Byte} {i : Instr} (h : build (rowOf op) operand = some i)
    (rest : List Byte) : decode (op :: (operand ++ rest)) = .ok (i, rest) := by
  unfold build at h
  split at h <;> cases h <;> simp [decode, *]

/-- The decoder takes an opcode byte and the operand bytes that its row builds the instruction from (R303). -/
theorem build_of_decode {bytes rest : List Byte} {i : Instr} (h : decode bytes = .ok (i, rest)) :
    ∃ op operand, bytes = op :: (operand ++ rest) ∧ build (rowOf op) operand = some i := by
  unfold decode at h
  split at h
  · cases h
  · next op tail =>
    split at h <;> cases h
    · next hrow => exact ⟨op, [], rfl, by rw [hrow]; rfl⟩
    · next hrow => exact ⟨op, [], rfl, by rw [hrow]; rfl⟩
    · next b hrow => exact ⟨op, [b], rfl, by rw [hrow]; rfl⟩
    · next lo hi hrow => exact ⟨op, [lo, hi], rfl, by rw [hrow]; rfl⟩

end Sys2Proof.Laws.RowReads

namespace Sys2Proof

open Laws.RowReads (build build_rowOf_opcode build_of_decode decode_of_build)

/-! ## The opcode map against the list of rows

The laws say that the map builds each instruction from its own bytes. The other direction, that what a row of the map
builds has that row's opcode byte, needs every byte to be the opcode of some instruction: `RowForm.sample`. Where a
proof goes through the constructors, it unfolds `Instr.row` first, since the map is indexed by a numeral only then. -/

/-- One instruction of a row of the opcode map: the one whose operand is zero. -/
def RowForm.sample : RowForm → Instr
  | .null i | .one i => i
  | .two f => f 0
  | .three f => f 0

/-- Every instruction of a row has the opcode byte `op`, and its operand bytes are those it is built from. -/
def RowForm.Encodes (op : Byte) : RowForm → Prop
  | .null i | .one i => encode i = [op]
  | .two f => (fun b => encode (f b)) = fun b => [op, b]
  | .three f => (fun w => encode (f w)) = fun w => [op, loByte w, hiByte w]

/-- The opcode map has an instruction with each opcode byte, at that byte (R310, R311). -/
theorem opcode_sample_rowOf : ∀ op : Byte, (rowOf op).sample.row.opcode = op := by decide

/-- The list of rows says of each instruction what the map's row at its opcode byte encodes (R310, R311). -/
theorem encodes_rowOf_opcode (i : Instr) : (rowOf i.row.opcode).Encodes i.row.opcode := by
  cases i <;> dsimp only [Instr.row] <;> exact rfl

theorem encodes_rowOf (op : Byte) : (rowOf op).Encodes op :=
  opcode_sample_rowOf op ▸ encodes_rowOf_opcode (rowOf op).sample

theorem RowForm.Encodes.encode_eq {op : Byte} {r : RowForm} {operand : List Byte} {i : Instr} (h : r.Encodes op)
    (hb : build r operand = some i) : encode i = op :: operand := by
  unfold build at hb
  split at hb <;> cases hb
  · exact h
  · exact h
  · next b => exact congrFun h b
  · next lo hi => simpa using congrFun h (wordOf lo hi)

/-- Settles O1: the law of the instruction's row says what the decoder builds from its operand bytes. -/
theorem decodeOfEncode : Obligations.DecodeOfEncode :=
  fun i rest => decode_of_build (build_rowOf_opcode i) rest

/-- Settles O2: the decoder builds from the row of its first byte, and every instruction of that row encodes to that
byte and the operand bytes taken. -/
theorem encodeOfDecode : Obligations.EncodeOfDecode := by
  intro bytes rest i h
  obtain ⟨op, operand, rfl, hb⟩ := build_of_decode h
  rw [(encodes_rowOf op).encode_eq hb, List.cons_append]

/-! ## What the opcode byte fixes -/

/-- What R311 says of a row: its mnemonic, addressing mode, base count and page-cross flag. -/
def Instr.descriptor (i : Instr) : Mnemonic × AddressingMode × Nat × Bool :=
  (i.mnemonic, i.row.operand.addressing, i.row.base, i.row.pageCross)

/-- No operand changes a descriptor: it is that of the map's row at the opcode byte (R301, R303). -/
theorem descriptor_eq_sample (i : Instr) : i.descriptor = (rowOf i.row.opcode).sample.descriptor := by
  cases i <;> dsimp only [Instr.row] <;> rfl

theorem mnemonic_eq_sample (i : Instr) : i.mnemonic = (rowOf i.row.opcode).sample.mnemonic :=
  congrArg Prod.fst (descriptor_eq_sample i)

/-- The number of bytes of an instruction, by its addressing mode (R301). -/
def AddressingMode.length : AddressingMode → Nat
  | .imp | .acc => 1
  | .imm | .zp | .zpX | .zpY | .izx | .izy | .rel => 2
  | .abs | .absX | .absY | .ind => 3

theorem Instr.length_eq (i : Instr) : i.length = i.row.operand.addressing.length := by
  unfold Instr.length encode
  cases i.row.operand with
  | mem m => cases m <;> rfl
  | imp | acc | imm | ind | rel => rfl

/-- Two bytes after an opcode byte are enough for every row (R303). -/
theorem decode_total (op b1 b2 : Byte) (r : List Byte) : ∃ i rest, decode (op :: b1 :: b2 :: r) = .ok (i, rest) := by
  cases hrow : rowOf op with
  | null i | one i => exact ⟨i, _, decode_of_build (operand := []) (by rw [hrow]; rfl) _⟩
  | two f => exact ⟨f b1, _, decode_of_build (operand := [b1]) (by rw [hrow]; rfl) _⟩
  | three f => exact ⟨f (wordOf b1 b2), _, decode_of_build (operand := [b1, b2]) (by rw [hrow]; rfl) _⟩

/-- Settles O3: what decodes is an encoding (O2), so it begins with its own opcode byte and is as long as its
addressing mode says. -/
theorem opcodeByteFixesRow : Obligations.OpcodeByteFixesRow := by
  refine ⟨fun op b1 b2 r => ?_, fun i j h => ?_, fun i _ => ?_⟩
  · obtain ⟨i, rest, hd⟩ := decode_total op b1 b2 r
    have he := encodeOfDecode _ _ _ hd
    exact ⟨i, rest, hd, List.head_eq_of_cons_eq he, fun _ => he ▸ (List.drop_left' rfl).symm⟩
  · have hd : i.descriptor = j.descriptor := by rw [descriptor_eq_sample i, descriptor_eq_sample j, h]
    simp only [Instr.descriptor, Prod.mk.injEq] at hd
    obtain ⟨hm, ha, hbase, hcross⟩ := hd
    exact ⟨hm, ha, hbase, hcross, by rw [i.length_eq, j.length_eq, ha]⟩
  · rw [i.length_eq]
    cases i.row.operand.addressing <;> rfl

/-! ## The unknown opcodes -/

theorem mnemonic_sample_unknown_iff :
    ∀ op : Byte, (rowOf op).sample.mnemonic = .unknown ↔ op ∈ unknownOpcodes := by decide

theorem mnemonic_unknown_iff (i : Instr) : i.mnemonic = .unknown ↔ i.row.opcode ∈ unknownOpcodes := by
  rw [mnemonic_eq_sample, mnemonic_sample_unknown_iff]

theorem wellFormed_eq_false_iff (i : Instr) : i.wellFormed = false ↔ i.mnemonic = .unknown := by
  simp [Instr.wellFormed]

/-- Settles O4: the opcode byte alone fixes the mnemonic, and the map's 256 bytes are checked one by one. -/
theorem unknownOpcodeBytes : Obligations.UnknownOpcodeBytes :=
  fun i => ⟨(wellFormed_eq_false_iff i).trans (mnemonic_unknown_iff i), mnemonic_unknown_iff i⟩

/-- Settles O5: each written word is the encoding of the instruction beside it, and so decodes to it (O1). -/
theorem decodeOfWrittenWords : Obligations.DecodeOfWrittenWords :=
  ⟨decodeOfEncode (.ldaImm 0x42) [], decodeOfEncode (.staAbs 0x0200) [], decodeOfEncode (.adcIzy 0x10) [],
    decodeOfEncode .aslAcc [], decodeOfEncode (.sloAbsy 0x0200) [], decodeOfEncode (.bne 0xFC) [],
    decodeOfEncode (.jmpInd 0x02FF) [], decodeOfEncode (.jsr 0x9000) [], decodeOfEncode .php [],
    decodeOfEncode .clc [], decodeOfEncode (.nopAbsx1C 0x1234) [], decodeOfEncode .unknown02 []⟩

end Sys2Proof

namespace Sys2Proof.Machine

/-! ## Effective addresses as numbers -/

theorem pageCrossed_iff (m : MemMode) (s : State) :
    pageCrossed m s = true ↔ (effAddr m s).toNat / 256 ≠ (memBase m s).toNat / 256 := by
  simp [pageCrossed, samePage, ← toNat_hiByte, BitVec.toNat_inj]

/-- A mode that adds no index to its base never crosses a page (R404-R406, R408). -/
theorem pageCrossed_of_effAddr_eq {m : MemMode} {s : State} (h : effAddr m s = memBase m s) :
    pageCrossed m s = false := by
  simp [pageCrossed, samePage, h]

theorem toNat_add_index (w : Word) (b : Byte) : (w + b.setWidth 16).toNat = (w.toNat + b.toNat) % 65536 := by
  simp [BitVec.toNat_add]

/-- An index is added inside page zero (R405). -/
theorem toNat_zeroPage_add (b i : Byte) : (zeroPage (b + i)).toNat = (b.toNat + i.toNat) % 256 := by
  rw [toNat_zeroPage, BitVec.toNat_add]

/-- The pointer's high byte is in page zero too: at $FF it comes from $00 (R408, R409). -/
theorem toNat_zpPointer (s : State) (b : Byte) :
    (s.zpPointer b).toNat = 256 * (s.ram.read ((b.toNat + 1) % 256)).toNat + (s.ram.read b.toNat).toNat := by
  rw [zpPointer_eq, toNat_wordOf, BitVec.toNat_add]
  rfl

/-- Settles O6: each mode's base as a number, its index added with a wrap, and the page compared through the high
bytes. -/
theorem effectiveAddressOfMode : Obligations.EffectiveAddressOfMode := by
  intro s b w
  dsimp only
  refine ⟨⟨toNat_zeroPage b, pageCrossed_of_effAddr_eq rfl⟩,
    ⟨toNat_zeroPage_add b _, pageCrossed_of_effAddr_eq rfl⟩, ⟨toNat_zeroPage_add b _, pageCrossed_of_effAddr_eq rfl⟩,
    ⟨rfl, pageCrossed_of_effAddr_eq rfl⟩,
    ⟨toNat_add_index w _, ?absX⟩, ⟨toNat_add_index w _, ?absY⟩, ⟨?izx, pageCrossed_of_effAddr_eq rfl⟩,
    ⟨?izy, ?izyCross⟩, fun m => ⟨Source.value_mem s m, Source.after_mem s m, rfl⟩, ⟨rfl, rfl, rfl⟩⟩
  case absX | absY => rw [pageCrossed_iff, effAddr, toNat_add_index, memBase]
  case izx => rw [effAddr, memBase, toNat_zpPointer, BitVec.toNat_add]
  case izy => rw [effAddr, toNat_add_index, memBase, toNat_zpPointer]
  case izyCross => rw [pageCrossed_iff, effAddr, toNat_add_index, memBase, toNat_zpPointer]

/-! ## Shifts of the accumulator -/

/-- A read-modify-write of A whose function gives `r` and shifts `out` into C: no access, and SetNZ of the result
(R402, R700). -/
theorem rmwShape_acc {f : Byte → Bool → ShiftResult} {s : State} {r : Byte} {out : Bool}
    (hf : f s.cpu.a (flagC s.cpu.p) = ⟨r, some out⟩) (base : Nat) :
    rmwShape .acc base f State.setNZ s =
      .next ((((s.setA r).setP (withC s.cpu.p out)).setNZ r).loadCycles base 0) := by
  simp [rmwShape, Target.modify, Target.result, Target.value, carryOut, hf]

/-- The bit that ROR brings in is C, moved to bit 7 (R713). -/
theorem carry_shiftLeft_seven (c : Bool) : (if c then 1 else 0 : Byte) <<< 7 = if c then 0x80 else 0 := by
  cases c <;> rfl

/-- Settles O18: each of the four is the accumulator form of a read-modify-write, with its own function. -/
theorem accumulatorShiftResult : Obligations.AccumulatorShiftResult := by
  intro s
  dsimp only
  rw [carry_shiftLeft_seven]
  exact ⟨rmwShape_acc rfl 2, rmwShape_acc rfl 2, rmwShape_acc rfl 2, rmwShape_acc rfl 2⟩

/-! ## The CPU step by the branches of its priority (R440, R1425) -/

/-- While cycles are left, a CPU step takes one off. -/
theorem cpuStep_of_cycles_left {s : State} (hrun : s.cpu.halted = false) (hleft : s.cpu.cycles ≠ 0) :
    cpuStep s = .next s.countDown := by
  simp [cpuStep, hrun, hleft]

/-- With nothing in flight and no interrupt in the way, a CPU step runs the instruction at PC. -/
theorem cpuStep_of_atFetch {s : State} (h : s.AtFetch) : cpuStep s = runInstruction s := by
  rw [cpuStep, h.noNmi, h.noIrq, h.running, h.done]
  rfl

/-- Settles O30, by induction on the number of steps: each finds a cycle left and takes it off. -/
theorem instructionOccupiesItsCycles : Obligations.InstructionOccupiesItsCycles := by
  intro s k hrun hk
  induction k, hk using Nat.le_induction with
  | base =>
    intro hle
    have hresult : (s.cpu.cycles - 1 = 0) = (1 = s.cpu.cycles) := propext (by omega)
    simp [cpuSteps, cpuStep_of_cycles_left hrun (by omega), State.countDown, hresult]
  | succ k _ ih =>
    intro hle
    have hresult : (s.cpu.cycles - (k + 1) = 0) = (k + 1 = s.cpu.cycles) := propext (by omega)
    rw [cpuSteps, ih (by omega)]
    refine (cpuStep_of_cycles_left ?_ ?_).trans ?_
    · exact hrun
    · exact Nat.sub_ne_zero_of_lt hle
    · simp [State.countDown, hresult, Nat.sub_sub, Nat.add_assoc]

end Sys2Proof.Machine

namespace Sys2Proof

open Laws.RowReads (build)

/-! ## Which rows of the opcode map have a descriptor -/

/-- Whether the row is one of an instruction, not a null row. -/
def RowForm.hasDescriptor : RowForm → Bool
  | .null _ => false
  | .one _ | .two _ | .three _ => true

/-- The null rows are those of the unknown opcodes (R310, R330). -/
theorem hasDescriptor_rowOf : ∀ op : Byte, (rowOf op).hasDescriptor = (rowOf op).sample.wellFormed := by decide

theorem hasDescriptor_rowOf_opcode (i : Instr) : (rowOf i.row.opcode).hasDescriptor = i.wellFormed := by
  rw [hasDescriptor_rowOf, Instr.wellFormed, Instr.wellFormed, mnemonic_eq_sample i]

/-- What a row of the opcode map builds is as long as the bytes taken, the opcode byte included, and is well-formed
when the row is not null: it encodes to those bytes, so the row is that of its own opcode byte. -/
theorem length_and_wellFormed_of_build {op : Byte} {operand : List Byte} {i : Instr}
    (h : build (rowOf op) operand = some i) :
    i.length = operand.length + 1 ∧ i.wellFormed = (rowOf op).hasDescriptor := by
  have he := (encodes_rowOf op).encode_eq h
  have hop : i.row.opcode = op := List.head_eq_of_cons_eq he
  exact ⟨congrArg List.length he, by rw [← hasDescriptor_rowOf_opcode, hop]⟩

end Sys2Proof

namespace Sys2Proof.Machine

open Laws.RowReads (build decode_of_build)

/-! ## The fetch against the decoder -/

/-- The operand bytes that the fetch reads after the opcode byte, by the row that this byte selects (R400). -/
def State.operandBytes (s : State) : List Byte :=
  match rowOf (s.busRead s.cpu.pc) with
  | .null _ | .one _ => []
  | .two _ => s.afterFetchByte.fetchBytes 1
  | .three _ => s.afterFetchByte.fetchBytes 2

theorem build_fetched (s : State) : build (rowOf (s.busRead s.cpu.pc)) s.operandBytes = some s.fetched := by
  unfold State.operandBytes State.fetched
  cases rowOf (s.busRead s.cpu.pc) <;> rfl

/-- The decoder finds in the three bytes at PC what the fetch finds there (R400). -/
theorem decode_fetchBytes (s : State) : ∃ rest, decode (s.fetchBytes 3) = .ok (s.fetched, rest) := by
  have hd := decode_of_build (build_fetched s)
  unfold State.operandBytes at hd
  cases hrow : rowOf (s.busRead s.cpu.pc) with
  | null | one => rw [hrow] at hd; exact ⟨_, hd (s.afterFetchByte.fetchBytes 2)⟩
  | two => rw [hrow] at hd; exact ⟨_, hd (s.afterFetchByte.afterFetchByte.fetchBytes 1)⟩
  | three => rw [hrow] at hd; exact ⟨_, hd []⟩

theorem fetched_of_decode {s : State} {i : Instr} {rest : List Byte} (h : decode (s.fetchBytes 3) = .ok (i, rest)) :
    s.fetched = i := by
  obtain ⟨rest', hd⟩ := decode_fetchBytes s
  rw [h] at hd
  injection hd with hd
  exact (congrArg Prod.fst hd).symm

/-- The fetch passes the bytes of an instruction (R102), and stays at an unknown opcode (R1401). -/
theorem afterFetch_eq (s : State) :
    s.afterFetch =
      if s.fetched.wellFormed then s.afterFetchBytes s.fetched.length else s.afterRead s.cpu.pc := by
  obtain ⟨hlen, hwf⟩ := length_and_wellFormed_of_build (build_fetched s)
  rw [hlen, hwf]
  unfold State.afterFetch State.operandBytes
  cases rowOf (s.busRead s.cpu.pc) <;> rfl

theorem afterFetchBytes_cpu (s : State) (n : Nat) :
    (s.afterFetchBytes n).cpu = { s.cpu with pc := s.cpu.pc + BitVec.ofNat 16 n } := by
  induction n generalizing s with
  | zero => simp [State.afterFetchBytes]
  | succ n ih =>
    rw [State.afterFetchBytes, ih]
    have hpc : s.cpu.pc + 1 + BitVec.ofNat 16 n = s.cpu.pc + BitVec.ofNat 16 (n + 1) := by
      rw [BitVec.add_assoc, BitVec.add_comm 1, BitVec.ofNat_add]; rfl
    simp [State.afterFetchByte, ← hpc]

theorem runInstruction_of_exec {s t : State} (h : exec s.fetched s.afterFetch = .next t) :
    runInstruction s = .next t.retire := by
  rw [runInstruction, h]

/-! ## The bus call -/

/-- A dot leaves the CPU but for the NMI latch, and the bus's counter (R1160, R1301). -/
theorem ppuStep_cpu (s : State) : s.ppuStep.cpu = { s.cpu with nmiPending := s.ppuStep.cpu.nmiPending } :=
  congrArg (·.cpu) (ppuStep_eq s)

theorem ppuStep_clock (s : State) : s.ppuStep.clock = s.clock := by rw [ppuStep_eq]

/-- At a fetch on a CPU call, a step is the execution of what was fetched, and what follows it (R440, R1301). -/
theorem step_of_exec {s t : State} (hr : s.Ready) (hc : s.clock % 3 = 0) (hf : s.beginCall.AtFetch)
    (ht : exec s.beginCall.fetched s.beginCall.afterFetch = .next t) :
    step s = .next t.retire.clockCartridge.tick :=
  step_of_cpu_call hr hc ((cpuStep_of_atFetch hf).trans (runInstruction_of_exec ht))

/-- A call that is not a CPU call is one dot and the clock (R1301). -/
theorem step_off_cpu_call {s : State} (hr : s.Ready) (hc : s.clock % 3 ≠ 0) :
    step s = .next { s.ppuStep with result := .none, clock := s.clock + 1 } := by
  rw [step_of_ppu_call hr hc, ← ppuStep_clock s]
  rfl

/-- A CPU call while cycles are left is one dot, one cycle less, the mapper's hook and the clock (R440, R1301). -/
theorem step_counting {s : State} (hr : s.Ready) (hc : s.clock % 3 = 0) (hrun : s.cpu.halted = false)
    (hleft : s.cpu.cycles ≠ 0) :
    step s = .next
      { s.ppuStep with
        cpu := { s.cpu with
          nmiPending := s.ppuStep.cpu.nmiPending
          cycles := s.cpu.cycles - 1
          cycleCount := s.cpu.cycleCount + 1 }
        cart := s.ppuStep.cart.map Cartridge.cpuClock
        result := if s.cpu.cycles = 1 then .complete else .inProgress
        clock := s.clock + 1 } := by
  have hcpu : s.beginCall.cpu = { s.cpu with nmiPending := s.ppuStep.cpu.nmiPending } := ppuStep_cpu s
  have hlast : (s.cpu.cycles - 1 = 0) = (s.cpu.cycles = 1) := propext (by omega)
  have hstep := cpuStep_of_cycles_left (s := s.beginCall) (by rw [hcpu]; exact hrun) (by rw [hcpu]; exact hleft)
  rw [step_of_cpu_call hr hc hstep]
  simp only [State.countDown, State.clockCartridge, State.tick, hcpu, hlast]
  simp only [State.beginCall, ppuStep_clock]

/-- Settles O29: the fetch finds what the decoder finds in the bytes at PC, and each call is one branch of the bus
call and of the CPU step. -/
theorem stepRunsDecodedInstruction : Obligations.StepRunsDecodedInstruction := by
  refine ⟨fun s i rest hr hc hf hd => ?_, fun s hr => ⟨step_off_cpu_call hr, step_counting hr⟩⟩
  have hafter := afterFetch_eq s.beginCall
  have hfetched := fetched_of_decode hd
  refine ⟨fun hwf => ⟨afterFetchBytes_cpu _ _, ?_⟩, fun hwf => ?_⟩
  · rw [hfetched, if_pos hwf] at hafter
    obtain ⟨u, extra, ht⟩ := exec_loads_base hwf (s.beginCall.afterFetchBytes i.length)
    exact ⟨_, ht, step_of_exec hr hc hf (by rw [hfetched, hafter, ht])⟩
  · rw [hfetched, if_neg (by simp [hwf])] at hafter
    have ht := exec_unknown (s.beginCall.afterRead s.beginCall.cpu.pc) ((wellFormed_eq_false_iff i).mp hwf)
    exact ⟨_, ht, step_of_exec hr hc hf (by rw [hfetched, hafter, ht])⟩

end Sys2Proof.Machine

namespace Sys2Proof.Machine

/-! ## The shapes when the effect is known in full

Each shape is its effect's state with the row's count loaded (R440). -/

/-- A reading instruction whose effect is a new CPU. -/
theorem readShape_of_cpu {i : Instr} {o : Source} {f : State → Byte → State} {s : State} {c : Cpu}
    (hf : f (o.after s) (o.value s) = { o.after s with cpu := c }) :
    readShape o i.row.base i.row.pageCross f s = .next
      { o.after s with
        cpu := { c with cycles := i.cycles (o.crossed s) + c.dmaStall, dmaStall := 0 } } := by
  rw [readShape, hf]
  rfl

/-- A store is one bus write at EA, with no read and no penalty (R223, R420). -/
theorem storeShape_eq (m : MemMode) (base : Nat) (v : State → Byte) (s : State) :
    storeShape m base v s = .next
      { s.busWrite (effAddr m s) (v s) with
        cpu := { (s.busWrite (effAddr m s) (v s)).cpu with
          cycles := base + (s.busWrite (effAddr m s) (v s)).cpu.dmaStall
          dmaStall := 0 } } := by
  rw [storeShape, storeAt_eq]
  rfl

theorem impliedShape_of_eq {f : State → State} {s t : State} (hf : f s = t) (base : Nat) :
    impliedShape base f s = .next
      { t with cpu := { t.cpu with cycles := base + t.cpu.dmaStall, dmaStall := 0 } } := by
  rw [impliedShape, hf]
  rfl

/-! ## Loads, stores and transfers -/

theorem opLda_of_cpu {s : State} {c : Cpu} (hc : s.cpu = c) (v : Byte) :
    opLda s v = { s with cpu := { c with a := v, p := nzOf c.p v } } := by
  subst hc
  rfl

theorem opLdx_of_cpu {s : State} {c : Cpu} (hc : s.cpu = c) (v : Byte) :
    opLdx s v = { s with cpu := { c with x := v, p := nzOf c.p v } } := by
  subst hc
  rfl

theorem opLdy_of_cpu {s : State} {c : Cpu} (hc : s.cpu = c) (v : Byte) :
    opLdy s v = { s with cpu := { c with y := v, p := nzOf c.p v } } := by
  subst hc
  rfl

theorem opLax_of_cpu {s : State} {c : Cpu} (hc : s.cpu = c) (v : Byte) :
    opLax s v = { s with cpu := { c with a := v, x := v, p := nzOf c.p v } } := by
  subst hc
  rfl

/-- Settles O7: reading the operand leaves the CPU, so each load's effect is a new CPU made from the old one. -/
theorem loadResult : Obligations.LoadResult := by
  intro i s o ho v _
  have hcpu := o.after_cpu s
  exact ⟨fun hm => (exec_lda s hm ho).trans (readShape_of_cpu (opLda_of_cpu hcpu v)),
    fun hm => (exec_ldx s hm ho).trans (readShape_of_cpu (opLdx_of_cpu hcpu v)),
    fun hm => (exec_ldy s hm ho).trans (readShape_of_cpu (opLdy_of_cpu hcpu v)),
    fun hm => (exec_lax s hm ho).trans (readShape_of_cpu (opLax_of_cpu hcpu v))⟩

/-- Settles O8: each of the four is the store shape around its own register. -/
theorem storeResult : Obligations.StoreResult := by
  intro i s m ho _
  exact ⟨fun hm => (exec_sta s hm ho).trans (storeShape_eq m i.row.base State.valA s),
    fun hm => (exec_stx s hm ho).trans (storeShape_eq m i.row.base State.valX s),
    fun hm => (exec_sty s hm ho).trans (storeShape_eq m i.row.base State.valY s),
    fun hm => (exec_sax s hm ho).trans (storeShape_eq m i.row.base State.valAX s)⟩

/-- Settles O9: each transfer is the implied shape around two register updates, TXS around one. -/
theorem transferResult : Obligations.TransferResult :=
  ⟨rfl, rfl, rfl, rfl, rfl, rfl, fun _ =>
    ⟨impliedShape_of_eq (f := opTax) rfl 2, impliedShape_of_eq (f := opTay) rfl 2,
      impliedShape_of_eq (f := opTxa) rfl 2, impliedShape_of_eq (f := opTya) rfl 2,
      impliedShape_of_eq (f := opTsx) rfl 2, impliedShape_of_eq (f := opTxs) rfl 2⟩⟩

/-! ## The stack instructions -/

theorem opPla_eq (s : State) :
    opPla s =
      { s with
        cpu.sp := s.cpu.sp + 1
        cpu.a := s.ram.read (256 + (s.cpu.sp + 1).toNat)
        cpu.p := nzOf s.cpu.p (s.ram.read (256 + (s.cpu.sp + 1).toNat)) } := by
  rw [opPla, afterPull_eq, pulled_eq]
  rfl

theorem opPlp_eq (s : State) :
    opPlp s =
      { s with
        cpu.sp := s.cpu.sp + 1
        cpu.p := pulledStatus (s.ram.read (256 + (s.cpu.sp + 1).toNat)) } := by
  rw [opPlp, afterPull_eq, pulled_eq]
  rfl

theorem opRts_eq (s : State) :
    opRts s =
      { s with
        cpu.sp := s.cpu.sp + 1 + 1
        cpu.pc :=
          wordOf (s.ram.read (256 + (s.cpu.sp + 1).toNat)) (s.ram.read (256 + (s.cpu.sp + 1 + 1).toNat)) + 1 } := by
  rw [opRts, afterPullPc_eq, pulledPc_eq]
  rfl

theorem opJsr_eq (s : State) (a : Word) :
    opJsr a s =
      { s with
        ram := (s.ram.write (256 + s.cpu.sp.toNat) (hiByte (s.cpu.pc - 1))).write (256 + (s.cpu.sp - 1).toNat)
          (loByte (s.cpu.pc - 1))
        cpu.sp := s.cpu.sp - 1 - 1
        cpu.pc := a } := by
  rw [opJsr, pushPc_eq]
  rfl

/-- Settles O10: a push and a pull are one access of page one each, in work RAM. -/
theorem stackInstructionResult : Obligations.StackInstructionResult :=
  ⟨rfl, rfl, rfl, rfl, fun s =>
    ⟨impliedShape_of_eq (f := opPha) (push_eq s _) 3, impliedShape_of_eq (f := opPhp) (push_eq s _) 3,
      impliedShape_of_eq (opPla_eq s) 4, impliedShape_of_eq (opPlp_eq s) 4⟩⟩

/-! ## Round trips through the stack -/

/-- A write one place lower in page one leaves the byte at `b`. -/
theorem read_write_stack_below (m : Memory) (b v : Byte) :
    (m.write (256 + (b - 1).toNat) v).read (256 + b.toNat) = m.read (256 + b.toNat) :=
  Memory.read_write_ne m v (by bv_omega)

/-- A write two places lower in page one leaves the byte at `b`. -/
theorem read_write_stack_two_below (m : Memory) (b v : Byte) :
    (m.write (256 + (b - 1 - 1).toNat) v).read (256 + b.toNat) = m.read (256 + b.toNat) :=
  Memory.read_write_ne m v (by bv_omega)

/-- A pull drops B and forces U, so what BRK adds to P on its way to the stack is gone again (R533, R834). -/
theorem pulledStatus_pushedByInstruction (p : Byte) : pulledStatus (pushedByInstruction p) = pulledStatus p := by
  apply BitVec.eq_of_getLsbD_eq
  intro k _
  simp only [pulledStatus_bits, pushedByInstruction_bits]
  by_cases h5 : k = 5
  · simp [h5]
  · by_cases h4 : k = 4
    · simp [h4]
    · simp [h4, h5]

theorem pla_after_pha {s u : State} (hram : u.ram = (opPha s).ram) (hsp : u.cpu.sp = (opPha s).cpu.sp) :
    (opPla u).cpu.a = s.cpu.a ∧ (opPla u).cpu.sp = s.cpu.sp := by
  rw [opPla_eq, hram, hsp, opPha, push_eq]
  simp only [BitVec.sub_add_cancel, Memory.read_write_same, true_and]

theorem rts_after_jsr {s u : State} (a : Word) (hram : u.ram = (opJsr a s).ram)
    (hsp : u.cpu.sp = (opJsr a s).cpu.sp) : (opRts u).cpu.pc = s.cpu.pc ∧ (opRts u).cpu.sp = s.cpu.sp := by
  rw [opRts_eq, hram, hsp, opJsr_eq]
  simp only [BitVec.sub_add_cancel, Memory.read_write_same, read_write_stack_below, wordOf_lo_hi, true_and]

theorem rti_after_brk {s u : State} (hram : u.ram = (opBrk s).ram) (hsp : u.cpu.sp = (opBrk s).cpu.sp) :
    (opRti u).cpu.pc = s.cpu.pc + 1 ∧ (opRti u).cpu.p = pulledStatus s.cpu.p ∧ (opRti u).cpu.sp = s.cpu.sp := by
  rw [opRti, returnFromInterrupt_eq, hram, hsp, opBrk, enterHandler_eq _ _ _ _ (by decide) (by decide)]
  simp only [BitVec.sub_add_cancel, Memory.read_write_same, read_write_stack_below, read_write_stack_two_below,
    wordOf_lo_hi, pulledStatus_pushedByInstruction, true_and]

/-- Settles O23: loading the cycle count touches none of these, so each trip is that of the two effects. -/
theorem stackRoundTrips : Obligations.StackRoundTrips :=
  fun _ a =>
    ⟨⟨_, rfl, fun _ hram hsp => ⟨_, rfl, pla_after_pha hram hsp⟩⟩,
      ⟨_, rfl, rfl, fun _ hram hsp => ⟨_, rfl, rts_after_jsr a hram hsp⟩⟩,
      ⟨_, rfl, fun _ hram hsp => ⟨_, rfl, rti_after_brk hram hsp⟩⟩⟩

/-! ## The frame of a storing instruction -/

/-- A storing instruction stores a register, or two of them combined, at its row's effective address. -/
theorem exec_storing {i : Instr} {m : MemMode} (ho : i.row.operand.mode = some m)
    (hm : i.mnemonic ∈ [.sta, .stx, .sty, .sax]) (s : State) : ∃ v, exec i s = storeShape m i.row.base v s := by
  simp only [List.mem_cons, List.not_mem_nil, or_false] at hm
  rcases hm with h | h | h | h
  · exact ⟨_, exec_sta s h ho⟩
  · exact ⟨_, exec_stx s h ho⟩
  · exact ⟨_, exec_sty s h ho⟩
  · exact ⟨_, exec_sax s h ho⟩

theorem Operand.target_of_mode {o : Operand} {m : MemMode} (h : o.mode = some m) : o.target = some (.mem m) := by
  cases o with
  | mem mode => cases h; rfl
  | _ => cases h

/-- A read-modify-write instruction with an operand in memory modifies it, and then has the effect of its mnemonic. -/
theorem exec_modifying {i : Instr} {m : MemMode} (ho : i.row.operand.mode = some m)
    (hm : i.mnemonic ∈ [.asl, .lsr, .rol, .ror, .inc, .dec, .slo, .rla, .sre, .rra, .dcp, .isb]) (s : State) :
    ∃ f g, ModifyEffect i.mnemonic f g ∧ exec i s = rmwShape (.mem m) i.row.base f g s := by
  have ht := Operand.target_of_mode ho
  simp only [List.mem_cons, List.not_mem_nil, or_false] at hm
  rcases hm with h | h | h | h | h | h | h | h | h | h | h | h
  · exact ⟨_, _, h ▸ .asl, exec_asl s h ht⟩
  · exact ⟨_, _, h ▸ .lsr, exec_lsr s h ht⟩
  · exact ⟨_, _, h ▸ .rol, exec_rol s h ht⟩
  · exact ⟨_, _, h ▸ .ror, exec_ror s h ht⟩
  · exact ⟨_, _, h ▸ .inc, exec_inc s h ht⟩
  · exact ⟨_, _, h ▸ .dec, exec_dec s h ht⟩
  · exact ⟨_, _, h ▸ .slo, exec_slo s h ht⟩
  · exact ⟨_, _, h ▸ .rla, exec_rla s h ht⟩
  · exact ⟨_, _, h ▸ .sre, exec_sre s h ht⟩
  · exact ⟨_, _, h ▸ .rra, exec_rra s h ht⟩
  · exact ⟨_, _, h ▸ .dcp, exec_dcp s h ht⟩
  · exact ⟨_, _, h ▸ .isb, exec_isb s h ht⟩

/-- What follows a read-modify-write writes A and P of the CPU at most. -/
theorem ModifyEffect.second_cpu {m : Mnemonic} {f : Byte → Bool → ShiftResult} {g : State → Byte → State}
    (hf : ModifyEffect m f g) (s : State) (v : Byte) :
    (g s v).cpu = { s.cpu with a := (g s v).cpu.a, p := (g s v).cpu.p } := by
  cases hf <;> rfl

/-- Of the combined forms only DCP leaves A. -/
theorem ModifyEffect.second_keeps_a {m : Mnemonic} {f : Byte → Bool → ShiftResult} {g : State → Byte → State}
    (hf : ModifyEffect m f g) (hm : m ∉ [Mnemonic.slo, .rla, .sre, .rra, .isb]) (s : State) (v : Byte) :
    (g s v).cpu.a = s.cpu.a := by
  cases hf with
  | slo | rla | sre | rra | isb => exact absurd hm (by decide)
  | _ => rfl

/-- Of the CPU a read-modify-write of memory changes P, and what its two writes can change. -/
theorem Target.modify_mem_cpu (m : MemMode) (f : Byte → Bool → ShiftResult) (s : State) :
    ((Target.mem m).modify f s).cpu =
      { s.cpu with
        p := ((Target.mem m).modify f s).cpu.p
        nmiPending := ((Target.mem m).modify f s).cpu.nmiPending
        dmaStall := ((Target.mem m).modify f s).cpu.dmaStall } := by
  rw [Target.modify_mem]
  dsimp only
  rw [State.setP_cpu, busWrite_cpu, busWrite_cpu, afterRead_cpu]

/-- A read-modify-write of memory leaves every cell that neither of its writes stores to (R222, R700). -/
theorem Target.modify_mem_byteAt {m : MemMode} {s : State} {sp : Space} {j : Nat}
    (h1 : (s.afterRead (effAddr m s)).storesTo (effAddr m s) sp j = false)
    (h2 : ((s.afterRead (effAddr m s)).busWrite (effAddr m s) (s.busRead (effAddr m s))).storesTo (effAddr m s) sp j =
      false) (f : Byte → Bool → ShiftResult) : ((Target.mem m).modify f s).byteAt sp j = s.byteAt sp j := by
  rw [Target.modify_mem]
  exact ((busWrite_byteAt _ _ _ sp j h2).trans (busWrite_byteAt _ _ _ sp j h1)).trans (afterRead_byteAt s _ sp j)

theorem ModifyEffect.second_byteAt {m : Mnemonic} {f : Byte → Bool → ShiftResult} {g : State → Byte → State}
    (hf : ModifyEffect m f g) (s : State) (v : Byte) (sp : Space) (j : Nat) : (g s v).byteAt sp j = s.byteAt sp j := by
  rw [hf.second_frame]
  rfl

theorem storeShape_frame {m : MemMode} {base : Nat} {v : State → Byte} {s t : State}
    (ht : storeShape m base v s = .next t) :
    (∀ sp j, s.storesTo (effAddr m s) sp j = false → t.byteAt sp j = s.byteAt sp j) ∧
      t.cpu.a = s.cpu.a ∧ t.cpu.x = s.cpu.x ∧ t.cpu.y = s.cpu.y ∧ t.cpu.sp = s.cpu.sp ∧ t.cpu.pc = s.cpu.pc ∧
      t.cpu.p = s.cpu.p ∧ t.cpu.halted = s.cpu.halted ∧ t.cpu.cycleCount = s.cpu.cycleCount := by
  rw [storeShape_eq] at ht
  injection ht with ht
  subst ht
  have field {α : Type} (get : Cpu → α) := congrArg get (busWrite_cpu s (effAddr m s) (v s))
  exact ⟨fun sp j h => busWrite_byteAt s _ (v s) sp j h, field (·.a), field (·.x), field (·.y), field (·.sp),
    field (·.pc), field (·.p), field (·.halted), field (·.cycleCount)⟩

/-- Settles O28: a store is one bus write and a read-modify-write two, and what follows them works on A and P alone. -/
theorem storingInstructionFrame : Obligations.StoringInstructionFrame := by
  intro i s t m ho ht ea
  refine ⟨fun hm => ?_, fun hm => ?_⟩
  · obtain ⟨v, he⟩ := exec_storing ho hm s
    exact storeShape_frame (he.symm.trans ht)
  · obtain ⟨f, g, hf, he⟩ := exec_modifying ho hm s
    rw [he] at ht
    injection ht with ht
    subst ht
    have hmodify := Target.modify_mem_cpu m f s
    have hcpu := hf.second_cpu ((Target.mem m).modify f s) ((Target.mem m).result f s).value
    rw [hmodify] at hcpu
    have field {α : Type} (get : Cpu → α) := congrArg get hcpu
    refine ⟨fun sp j h1 h2 => ?_, field (·.x), field (·.y), field (·.sp), field (·.pc), field (·.halted),
      field (·.cycleCount), fun ha => ?_⟩
    · exact (hf.second_byteAt _ _ sp j).trans (Target.modify_mem_byteAt h1 h2 f)
    · exact (hf.second_keeps_a ha _ _).trans (congrArg (·.a) hmodify)

end Sys2Proof.Machine

namespace Sys2Proof.Machine

/-! ## The sign of a byte and signed overflow -/

theorem signBit_eq (v : Byte) : v.getLsbD 7 = decide (128 ≤ v.toNat) := BitVec.msb_eq_decide v

/-- The mask of R601 compares three signs. -/
theorem addOverflow_iff_signs (a m r : Byte) :
    addOverflow a m r = true ↔ a.getLsbD 7 = m.getLsbD 7 ∧ r.getLsbD 7 ≠ a.getLsbD 7 := by
  rw [addOverflow, BitVec.getLsbD_and, BitVec.getLsbD_not, BitVec.getLsbD_xor, BitVec.getLsbD_xor]
  cases a.getLsbD 7 <;> cases m.getLsbD 7 <;> simp

/-- Two signs that agree with each other and not with the wrapped sum's: the signed sum does not fit a byte (R601). -/
theorem addOverflow_iff_signed (a m : Byte) {c : Nat} (hc : c ≤ 1) :
    addOverflow a m (BitVec.ofNat 8 (a.toNat + m.toNat + c)) = true ↔
      (a.toInt + m.toInt + c < -128 ∨ 127 < a.toInt + m.toInt + c) := by
  have ha := a.isLt
  have hm := m.isLt
  rw [addOverflow_iff_signs, BitVec.toInt_eq_toNat_cond, BitVec.toInt_eq_toNat_cond]
  simp only [signBit_eq, BitVec.toNat_ofNat, ne_eq, decide_eq_decide]
  omega

theorem carryIn_le_one (p : Byte) : carryIn p ≤ 1 := by
  rw [carryIn]
  split <;> decide

/-! ## AddWithCarry, flag by flag (R601) -/

section
variable (s : State) (m : Byte)

/-- AddWithCarry writes A and P alone. -/
theorem addWithCarry_frame :
    s.addWithCarry m =
      { s with
        cpu.a := BitVec.ofNat 8 (addSum s.cpu.p s.cpu.a m)
        cpu.p := (s.addWithCarry m).cpu.p } := rfl

theorem addWithCarry_a : (s.addWithCarry m).cpu.a = BitVec.ofNat 8 (addSum s.cpu.p s.cpu.a m) := rfl

theorem flagC_addWithCarry_iff : flagC (s.addWithCarry m).cpu.p = true ↔ 0xFF < addSum s.cpu.p s.cpu.a m := by
  have hbit : flagC (s.addWithCarry m).cpu.p = decide (0xFF < addSum s.cpu.p s.cpu.a m) := addWithCarry_p_bits s m 0
  rw [hbit, decide_eq_true_iff]

theorem flagZ_addWithCarry_iff : flagZ (s.addWithCarry m).cpu.p = true ↔ addSum s.cpu.p s.cpu.a m % 256 = 0 := by
  have hbit : flagZ (s.addWithCarry m).cpu.p = decide (BitVec.ofNat 8 (addSum s.cpu.p s.cpu.a m) = 0) :=
    addWithCarry_p_bits s m 1
  rw [hbit, decide_eq_true_iff, ← BitVec.toNat_inj, BitVec.toNat_ofNat]
  rfl

theorem flagV_addWithCarry :
    flagV (s.addWithCarry m).cpu.p = addOverflow s.cpu.a m (BitVec.ofNat 8 (addSum s.cpu.p s.cpu.a m)) :=
  addWithCarry_p_bits s m 6

theorem flagN_addWithCarry :
    flagN (s.addWithCarry m).cpu.p = (BitVec.ofNat 8 (addSum s.cpu.p s.cpu.a m)).getLsbD 7 :=
  addWithCarry_p_bits s m 7

theorem addWithCarry_keeps_bit {k : Nat} (h0 : k ≠ 0) (h1 : k ≠ 1) (h6 : k ≠ 6) (h7 : k ≠ 7) :
    (s.addWithCarry m).cpu.p.getLsbD k = s.cpu.p.getLsbD k := by
  rw [addWithCarry_p_bits, if_neg h7, if_neg h1, if_neg h6, if_neg h0]

end

theorem nzOf_keeps_bit (p v : Byte) {k : Nat} (h1 : k ≠ 1) (h7 : k ≠ 7) :
    (nzOf p v).getLsbD k = p.getLsbD k := by
  rw [getLsbD_nzOf, if_neg h7, if_neg h1]

/-- Settles O11: P after SetNZ and after AddWithCarry bit by bit, V in its three forms. -/
theorem addWithCarryHelper : Obligations.AddWithCarryHelper := by
  refine ⟨fun p v k => ⟨getLsbD_nzOf p v 7, getLsbD_nzOf p v 1, nzOf_keeps_bit p v⟩, fun s m => ?_⟩
  have hV := flagV_addWithCarry s m
  exact ⟨addWithCarry_frame s m, flagC_addWithCarry_iff s m, hV,
    (Bool.eq_iff_iff.mp hV).trans (addOverflow_iff_signs _ _ _),
    (Bool.eq_iff_iff.mp hV).trans (addOverflow_iff_signed _ _ (carryIn_le_one s.cpu.p)), flagN_addWithCarry s m,
    flagZ_addWithCarry_iff s m, fun _ => addWithCarry_keeps_bit s m⟩

/-! ## ADC and SBC -/

/-- A reading instruction whose effect is AddWithCarry: the sum's state, with the row's count and the stall of the
state before (R440). -/
theorem readShape_addWithCarry {i : Instr} {o : Source} {f : State → Byte → State} {s : State} {m : Byte}
    (hf : f (o.after s) (o.value s) = (o.after s).addWithCarry m) :
    readShape o i.row.base i.row.pageCross f s = .next
      { (o.after s).addWithCarry m with
        cpu := { ((o.after s).addWithCarry m).cpu with
          cycles := i.cycles (o.crossed s) + s.cpu.dmaStall
          dmaStall := 0 } } := by
  have hstall : s.cpu.dmaStall = (o.after s).cpu.dmaStall := congrArg (·.dmaStall) (o.after_cpu s).symm
  rw [hstall]
  exact readShape_of_cpu hf

/-- Settles O12: ADC adds the operand and SBC its complement, both by AddWithCarry. -/
theorem addSubtractResult : Obligations.AddSubtractResult := fun _ s _ ho =>
  ⟨fun hm => (exec_adc s hm ho).trans (readShape_addWithCarry rfl),
    fun hm => (exec_sbc s hm ho).trans (readShape_addWithCarry rfl)⟩

/-! ## Subtraction as the addition of the complement (R600, R611) -/

/-- The borrow that SBC takes in: 1 - C (R611). -/
def borrowIn (p : Byte) : Nat := if flagC p then 0 else 1

theorem carryIn_add_borrowIn (p : Byte) : carryIn p + borrowIn p = 1 := by
  rw [carryIn, borrowIn]
  split <;> rfl

theorem toNat_complement (m : Byte) : (m ^^^ 0xFF).toNat = 255 - m.toNat := by
  have hnot : m ^^^ 0xFF = ~~~m := BitVec.xor_allOnes
  rw [hnot, BitVec.toNat_not]

theorem toInt_complement (m : Byte) : (m ^^^ 0xFF).toInt = -1 - m.toInt := by
  have := m.isLt
  rw [BitVec.toInt_eq_toNat_cond, BitVec.toInt_eq_toNat_cond, toNat_complement]
  omega

/-- The sum with the complement is 256 more than the difference. -/
theorem addSum_complement (p a m : Byte) :
    addSum p a (m ^^^ 0xFF) + (m.toNat + borrowIn p) = a.toNat + 256 := by
  have hm := m.isLt
  have hborrow := carryIn_add_borrowIn p
  rw [addSum, toNat_complement]
  omega

theorem ofNat_addSum_complement (p a m : Byte) :
    BitVec.ofNat 8 (addSum p a (m ^^^ 0xFF)) = a - m - BitVec.ofNat 8 (borrowIn p) := by
  have hsum := congrArg (BitVec.ofNat 8) (addSum_complement p a m)
  simp only [BitVec.ofNat_add, BitVec.ofNat_toNat, BitVec.setWidth_eq] at hsum
  rw [BitVec.sub_sub, BitVec.eq_sub_iff_add_eq, hsum]
  exact BitVec.add_zero a

/-- No borrow is needed exactly when the sum with the complement carries. -/
theorem lt_addSum_complement_iff (p a m : Byte) :
    0xFF < addSum p a (m ^^^ 0xFF) ↔ m.toNat + borrowIn p ≤ a.toNat := by
  have := addSum_complement p a m
  omega

theorem addOverflow_complement_iff (p a m : Byte) :
    addOverflow a (m ^^^ 0xFF) (BitVec.ofNat 8 (addSum p a (m ^^^ 0xFF))) = true ↔
      (a.toInt - m.toInt - borrowIn p < -128 ∨ 127 < a.toInt - m.toInt - borrowIn p) := by
  have hborrow := carryIn_add_borrowIn p
  rw [addSum, addOverflow_iff_signed a _ (carryIn_le_one p), toInt_complement]
  omega

/-- Settles O13: SBC's state is AddWithCarry of the complement, read as a subtraction. -/
theorem subtractIsBorrowSubtract : Obligations.SubtractIsBorrowSubtract := by
  intro i s o ho hm
  have hcpu := o.after_cpu s
  have hA := addWithCarry_a (o.after s) (o.value s ^^^ 0xFF)
  have hC := flagC_addWithCarry_iff (o.after s) (o.value s ^^^ 0xFF)
  have hV := flagV_addWithCarry (o.after s) (o.value s ^^^ 0xFF)
  rw [hcpu] at hA hC hV
  exact ⟨_, (addSubtractResult i s o ho).2 hm, hA.trans (ofNat_addSum_complement _ _ _),
    hC.trans (lt_addSum_complement_iff _ _ _), (Bool.eq_iff_iff.mp hV).trans (addOverflow_complement_iff _ _ _)⟩

/-! ## Logic and BIT -/

theorem opAnd_of_cpu {s : State} {c : Cpu} (hc : s.cpu = c) (v : Byte) :
    opAnd s v = { s with cpu := { c with a := c.a &&& v, p := nzOf c.p (c.a &&& v) } } := by
  subst hc
  rfl

theorem opOra_of_cpu {s : State} {c : Cpu} (hc : s.cpu = c) (v : Byte) :
    opOra s v = { s with cpu := { c with a := c.a ||| v, p := nzOf c.p (c.a ||| v) } } := by
  subst hc
  rfl

theorem opEor_of_cpu {s : State} {c : Cpu} (hc : s.cpu = c) (v : Byte) :
    opEor s v = { s with cpu := { c with a := c.a ^^^ v, p := nzOf c.p (c.a ^^^ v) } } := by
  subst hc
  rfl

theorem opBit_of_cpu {s : State} {c : Cpu} (hc : s.cpu = c) (v : Byte) :
    opBit s v = { s with cpu := { c with p := bitFlags c.p c.a v } } := by
  subst hc
  rfl

theorem bitFlags_keeps_bit (p a m : Byte) {k : Nat} (h1 : k ≠ 1) (h6 : k ≠ 6) (h7 : k ≠ 7) :
    (bitFlags p a m).getLsbD k = p.getLsbD k := by
  rw [getLsbD_bitFlags, if_neg h6, if_neg h7, if_neg h1]

/-- Settles O14: each effect is a new CPU made from the old one, BIT's only in P. -/
theorem logicResult : Obligations.LogicResult := by
  intro i s o ho v _
  have hcpu := o.after_cpu s
  exact ⟨fun hm => (exec_and s hm ho).trans (readShape_of_cpu (opAnd_of_cpu hcpu v)),
    fun hm => (exec_ora s hm ho).trans (readShape_of_cpu (opOra_of_cpu hcpu v)),
    fun hm => (exec_eor s hm ho).trans (readShape_of_cpu (opEor_of_cpu hcpu v)),
    fun hm => ⟨bitFlags s.cpu.p s.cpu.a v, (exec_bit s hm ho).trans (readShape_of_cpu (opBit_of_cpu hcpu v)),
      getLsbD_bitFlags _ _ v 1, getLsbD_bitFlags _ _ v 7, getLsbD_bitFlags _ _ v 6,
      fun _ => bitFlags_keeps_bit _ _ v⟩⟩

/-! ## Compares -/

theorem compare_of_cpu {s : State} {c : Cpu} (hc : s.cpu = c) (r m : Byte) :
    s.compare r m = { s with cpu := { c with p := compareFlags c.p r m } } := by
  subst hc
  rfl

theorem compareFlags_keeps_bit (p r m : Byte) {k : Nat} (h0 : k ≠ 0) (h1 : k ≠ 1) (h7 : k ≠ 7) :
    (compareFlags p r m).getLsbD k = p.getLsbD k := by
  rw [getLsbD_compareFlags, if_neg h7, if_neg h1, if_neg h0]

/-- Settles O15: each of the three is Compare of its own register, which the operand read leaves. -/
theorem compareResult : Obligations.CompareResult := by
  intro i s o ho v compares
  have hcpu := o.after_cpu s
  have of_compare {f : State → Byte → State} {r : Byte}
      (he : exec i s = readShape o i.row.base i.row.pageCross f s)
      (hf : f (o.after s) v = (o.after s).compare r v) : compares r :=
    ⟨compareFlags s.cpu.p r v, he.trans (readShape_of_cpu (hf.trans (compare_of_cpu hcpu r v))),
      getLsbD_compareFlags _ r v 0, getLsbD_compareFlags _ r v 1, getLsbD_compareFlags _ r v 7,
      fun _ => compareFlags_keeps_bit _ r v⟩
  refine ⟨fun hm => of_compare (exec_cmp s hm ho) ?_, fun hm => of_compare (exec_cpx s hm ho) ?_,
    fun hm => of_compare (exec_cpy s hm ho) ?_⟩
  · rw [opCmp, hcpu]
  · rw [opCpx, hcpu]
  · rw [opCpy, hcpu]

/-! ## INX, INY, DEX and DEY -/

/-- Settles O16: each is the implied shape around one register update and SetNZ. -/
theorem registerIncrementResult : Obligations.RegisterIncrementResult :=
  ⟨rfl, rfl, rfl, rfl, fun _ =>
    ⟨impliedShape_of_eq (f := opInx) rfl 2, impliedShape_of_eq (f := opIny) rfl 2,
      impliedShape_of_eq (f := opDex) rfl 2, impliedShape_of_eq (f := opDey) rfl 2⟩⟩

end Sys2Proof.Machine

namespace Sys2Proof.Machine

/-! ## Read-modify-write of memory -/

/-- The memory accesses of a read-modify-write (R222, R700): `ea` is read once and written twice, first the byte that
was there and then `r`. -/
def State.doubleWrite (s : State) (ea : Word) (r : Byte) : State :=
  ((s.afterRead ea).busWrite ea (s.busRead ea)).busWrite ea r

section
variable (s : State) (ea : Word) (r : Byte)

theorem doubleWrite_cpu :
    (s.doubleWrite ea r).cpu =
      { s.cpu with
        nmiPending := (s.doubleWrite ea r).cpu.nmiPending
        dmaStall := (s.doubleWrite ea r).cpu.dmaStall } := by
  rw [State.doubleWrite, busWrite_cpu, busWrite_cpu, afterRead_cpu]

@[simp] theorem doubleWrite_a : (s.doubleWrite ea r).cpu.a = s.cpu.a := congrArg (·.a) (doubleWrite_cpu s ea r)

@[simp] theorem doubleWrite_p : (s.doubleWrite ea r).cpu.p = s.cpu.p := congrArg (·.p) (doubleWrite_cpu s ea r)

end

/-- The double write leaves P, so the function's carry goes into the P of before it. -/
theorem Target.modify_mem_eq_doubleWrite (m : MemMode) (f : Byte → Bool → ShiftResult) (s : State) :
    (Target.mem m).modify f s =
      (s.doubleWrite (effAddr m s) ((Target.mem m).result f s).value).setP
        (carryOut s.cpu.p ((Target.mem m).result f s)) := by
  rw [← doubleWrite_p s (effAddr m s) ((Target.mem m).result f s).value, Target.result, Target.value_mem]
  exact Target.modify_mem s m f

section
variable {m : MemMode} {f : Byte → Bool → ShiftResult} {s : State} {r p : Byte}

/-- A read-modify-write of memory whose function gives `r` and makes P `p`: the double write, then `g`, with the base
count and the cycles that the writes stole (R440, R700). -/
theorem rmwShape_mem_of_eq {g : State → Byte → State} {t : State}
    (hr : (f (s.busRead (effAddr m s)) (flagC s.cpu.p)).value = r)
    (hp : carryOut s.cpu.p (f (s.busRead (effAddr m s)) (flagC s.cpu.p)) = p)
    (hg : g ((s.doubleWrite (effAddr m s) r).setP p) r = t) (base : Nat) :
    rmwShape (.mem m) base f g s =
      .next { t with cpu := { t.cpu with cycles := base + t.cpu.dmaStall, dmaStall := 0 } } := by
  rw [rmwShape, Target.modify_mem_eq_doubleWrite, Target.result, Target.value_mem, hr, hp, hg]
  rfl

theorem rmwShape_mem_setNZ (hr : (f (s.busRead (effAddr m s)) (flagC s.cpu.p)).value = r)
    (hp : carryOut s.cpu.p (f (s.busRead (effAddr m s)) (flagC s.cpu.p)) = p) (base : Nat) :
    rmwShape (.mem m) base f State.setNZ s =
      .next
        { s.doubleWrite (effAddr m s) r with
          cpu := { (s.doubleWrite (effAddr m s) r).cpu with
            p := nzOf p r
            cycles := base + (s.doubleWrite (effAddr m s) r).cpu.dmaStall
            dmaStall := 0 } } := by
  rw [rmwShape_mem_of_eq hr hp rfl base]
  rfl

end

/-- Settles O17: each of the six is the read-modify-write of its own function, followed by SetNZ of the result. -/
theorem memoryShiftResult : Obligations.MemoryShiftResult := by
  intro i s m ho
  have ht := Operand.target_of_mode ho
  dsimp only
  rw [carry_shiftLeft_seven]
  exact ⟨fun hm => (exec_asl s hm ht).trans (rmwShape_mem_setNZ rfl rfl _),
    fun hm => (exec_lsr s hm ht).trans (rmwShape_mem_setNZ rfl rfl _),
    fun hm => (exec_rol s hm ht).trans (rmwShape_mem_setNZ rfl rfl _),
    fun hm => (exec_ror s hm ht).trans (rmwShape_mem_setNZ rfl rfl _),
    fun hm => (exec_inc s hm ht).trans (rmwShape_mem_setNZ rfl rfl _),
    fun hm => (exec_dec s hm ht).trans (rmwShape_mem_setNZ rfl rfl _)⟩

/-! ## The combined forms: a second operation on A -/

theorem opOra_of_a {s : State} {a : Byte} (ha : s.cpu.a = a) (v : Byte) :
    opOra s v = (s.setA (a ||| v)).setNZ (a ||| v) := by
  rw [opOra, ha]

theorem opAnd_of_a {s : State} {a : Byte} (ha : s.cpu.a = a) (v : Byte) :
    opAnd s v = (s.setA (a &&& v)).setNZ (a &&& v) := by
  rw [opAnd, ha]

theorem opEor_of_a {s : State} {a : Byte} (ha : s.cpu.a = a) (v : Byte) :
    opEor s v = (s.setA (a ^^^ v)).setNZ (a ^^^ v) := by
  rw [opEor, ha]

theorem opCmp_of_a {s : State} {a : Byte} (ha : s.cpu.a = a) (v : Byte) : opCmp s v = s.compare a v := by
  rw [opCmp, ha]

/-- Settles O19: the second operation finds A as it was before the double write, and the carry of the shift in P. -/
theorem combinedModifyResult : Obligations.CombinedModifyResult := by
  intro i s m ho
  have ht := Operand.target_of_mode ho
  have hA (r p : Byte) : ((s.doubleWrite (effAddr m s) r).setP p).cpu.a = s.cpu.a := doubleWrite_a s _ r
  dsimp only
  rw [carry_shiftLeft_seven]
  exact ⟨fun hm => (exec_slo s hm ht).trans (rmwShape_mem_of_eq rfl rfl (opOra_of_a (hA _ _) _) _),
    fun hm => (exec_rla s hm ht).trans (rmwShape_mem_of_eq rfl rfl (opAnd_of_a (hA _ _) _) _),
    fun hm => (exec_sre s hm ht).trans (rmwShape_mem_of_eq rfl rfl (opEor_of_a (hA _ _) _) _),
    fun hm => (exec_rra s hm ht).trans (rmwShape_mem_of_eq rfl rfl rfl _),
    fun hm => (exec_dcp s hm ht).trans (rmwShape_mem_of_eq rfl rfl (opCmp_of_a (hA _ _) _) _),
    fun hm => (exec_isb s hm ht).trans (rmwShape_mem_of_eq rfl rfl rfl _)⟩

end Sys2Proof.Machine

namespace Sys2Proof.Machine

/-! ## Branches -/

theorem samePage_iff (a b : Word) : samePage a b = true ↔ a.toNat / 256 = b.toNat / 256 := by
  rw [samePage, beq_iff_eq, ← BitVec.toNat_inj, toNat_hiByte, toNat_hiByte]

/-- The target is the next instruction's address plus the signed offset, wrapped to a word (R411). -/
theorem branchTarget_eq_ofInt (off : Byte) (s : State) :
    branchTarget off s = BitVec.ofInt 16 (s.cpu.pc.toNat + off.toInt) := by
  rw [branchTarget, BitVec.signExtend, BitVec.ofInt_add, BitVec.ofInt_natCast, BitVec.ofNat_toNat,
    BitVec.setWidth_eq]

/-- With the base count of 2 a taken branch takes 3 cycles, or 4 onto another page (R421). -/
theorem two_add_branchExtra (off : Byte) (s : State) :
    2 + branchExtra off s = if (branchTarget off s).toNat / 256 = s.cpu.pc.toNat / 256 then 3 else 4 := by
  simp only [branchExtra, samePage_iff]
  split <;> rfl

/-- A conditional branch with the base count of 2 in full (R815): PC and the cycles, and no flag. -/
theorem branchShape_eq (off : Byte) (cond : Byte → Bool) (s : State) :
    branchShape off 2 cond s = .next
      (if cond s.cpu.p then
        { s with
          cpu := { s.cpu with
            pc := BitVec.ofInt 16 (s.cpu.pc.toNat + off.toInt)
            cycles := (if BitVec.toNat (BitVec.ofInt 16 (s.cpu.pc.toNat + off.toInt)) / 256 = s.cpu.pc.toNat / 256
              then 3 else 4) + s.cpu.dmaStall
            dmaStall := 0 } }
      else { s with cpu := { s.cpu with cycles := 2 + s.cpu.dmaStall, dmaStall := 0 } }) := by
  rw [branchShape]
  split
  case isTrue =>
    rw [← branchTarget_eq_ofInt, ← two_add_branchExtra]
    rfl
  case isFalse => rfl

/-- Settles O20: each of the eight is the branch shape around its own condition. -/
theorem branchResult : Obligations.BranchResult := fun s off =>
  ⟨⟨rfl, branchShape_eq off condPl s⟩, ⟨rfl, branchShape_eq off condMi s⟩, ⟨rfl, branchShape_eq off condVc s⟩,
    ⟨rfl, branchShape_eq off condVs s⟩, ⟨rfl, branchShape_eq off condCc s⟩, ⟨rfl, branchShape_eq off condCs s⟩,
    ⟨rfl, branchShape_eq off condNe s⟩, ⟨rfl, branchShape_eq off condEq s⟩⟩

/-! ## Jumps, calls and returns -/

/-- The high byte of an indirect jump's target is at the next address of the pointer's own page (R410). -/
theorem indirectHigh_eq_ofNat (ptr : Word) :
    indirectHigh ptr = BitVec.ofNat 16 (ptr.toNat / 256 * 256 + (ptr.toNat + 1) % 256) := by
  have hptr := ptr.isLt
  have hlow : (loByte ptr + 1).toNat = (ptr.toNat + 1) % 256 := by
    rw [BitVec.toNat_add, toNat_loByte]
    exact Nat.mod_add_mod ptr.toNat 256 1
  apply BitVec.eq_of_toNat_eq
  rw [indirectHigh, toNat_wordOf, toNat_hiByte, hlow, BitVec.toNat_ofNat]
  omega

/-- The two pointer reads leave the CPU, so PC is loaded into the CPU of before them. -/
theorem opJmpInd_eq (a : Word) (s : State) :
    opJmpInd a s =
      { (s.afterRead a).afterRead (indirectHigh a) with cpu := { s.cpu with pc := indirectTarget a s } } := by
  rw [opJmpInd, afterIndirect, State.setPc, afterRead_cpu, afterRead_cpu]

/-! SP moves a byte at a time, and the statements write its steps as one (R101). -/

theorem sp_sub_two (sp : Byte) : sp - 2 = sp - 1 - 1 := (BitVec.sub_sub sp 1 1).symm

theorem sp_add_two (sp : Byte) : sp + 2 = sp + 1 + 1 := (BitVec.add_assoc sp 1 1).symm

theorem sp_sub_three (sp : Byte) : sp - 3 = sp - 1 - 1 - 1 := by
  rw [← sp_sub_two sp]
  exact (BitVec.sub_sub sp 2 1).symm

theorem sp_add_three (sp : Byte) : sp + 3 = sp + 1 + 1 + 1 := by
  rw [← sp_add_two sp]
  exact (BitVec.add_assoc sp 2 1).symm

/-- Settles O21: each is the implied shape around its effect; only JMP (ind) reads outside work RAM. -/
theorem jumpResult : Obligations.JumpResult := by
  intro s a
  dsimp only
  rw [← indirectHigh_eq_ofNat, sp_sub_two, sp_add_two]
  exact ⟨impliedShape_of_eq (f := opJmp a) rfl 3, impliedShape_of_eq (opJmpInd_eq a s) 5,
    impliedShape_of_eq (opJsr_eq s a) 6, impliedShape_of_eq (opRts_eq s) 6⟩

/-! ## BRK and RTI -/

/-- BRK's vector is in the ROM space, so reading it does not see the three pushes (R834). -/
theorem opBrk_eq (s : State) :
    opBrk s =
      { s with
        ram := ((s.ram.write (256 + s.cpu.sp.toNat) (hiByte (s.cpu.pc + 1))).write (256 + (s.cpu.sp - 1).toNat)
          (loByte (s.cpu.pc + 1))).write (256 + (s.cpu.sp - 1 - 1).toNat) (s.cpu.p ||| 0x30)
        cpu.sp := s.cpu.sp - 1 - 1 - 1
        cpu.p := s.cpu.p ||| 0x04
        cpu.pc := wordOf (s.busRead 0xFFFE) (s.busRead 0xFFFF) } :=
  enterHandler_eq s (s.cpu.pc + 1) (pushedByInstruction s.cpu.p) irqVector (by decide) (by decide)

/-- Settles O22: entry through a handler's vector and the return from it, with their stack bytes in page one. -/
theorem trapAndReturnResult : Obligations.TrapAndReturnResult := by
  refine ⟨rfl, rfl, fun s => ?_⟩
  dsimp only
  rw [sp_sub_two, sp_add_two, sp_sub_three, sp_add_three]
  exact ⟨impliedShape_of_eq (opBrk_eq s) 7, impliedShape_of_eq (returnFromInterrupt_eq s) 6⟩

end Sys2Proof.Machine

namespace Sys2Proof.Machine

/-! ## The flag instructions -/

/-- An implied instruction whose effect writes one bit of P, and keeps the others. -/
theorem impliedShape_of_setBit {f : State → State} {s : State} {k : Nat} {b : Bool}
    (hf : f s = s.setP (setBit s.cpu.p k b)) (hk : k < 8) (base : Nat) :
    ∃ p, impliedShape base f s = .next
        { s with cpu := { s.cpu with p := p, cycles := base + s.cpu.dmaStall, dmaStall := 0 } } ∧
      p.getLsbD k = b ∧ ∀ j, j ≠ k → p.getLsbD j = s.cpu.p.getLsbD j := by
  refine ⟨setBit s.cpu.p k b, impliedShape_of_eq hf base, ?_, fun j hj => ?_⟩
  · rw [getLsbD_setBit _ _ _ _ hk, if_pos rfl]
  · rw [getLsbD_setBit _ _ _ _ hk, if_neg hj]

/-- Settles O24: each is the implied shape around one write to its flag's bit of P. -/
theorem flagInstructionResult : Obligations.FlagInstructionResult :=
  ⟨rfl, rfl, rfl, rfl, rfl, rfl, rfl, fun _ =>
    ⟨impliedShape_of_setBit (f := opClc) rfl (by decide) 2, impliedShape_of_setBit (f := opSec) rfl (by decide) 2,
      impliedShape_of_setBit (f := opCli) rfl (by decide) 2, impliedShape_of_setBit (f := opSei) rfl (by decide) 2,
      impliedShape_of_setBit (f := opClv) rfl (by decide) 2, impliedShape_of_setBit (f := opCld) rfl (by decide) 2,
      impliedShape_of_setBit (f := opSed) rfl (by decide) 2⟩⟩

/-! ## NOP -/

/-- The rows of NOP: seven implied ones of two cycles, and those that read an operand (R920, R921). -/
theorem nop_operand {i : Instr} (hm : i.mnemonic = .nop) :
    (i.row.operand = .imp ∧ i.row.base = 2) ∨ ∃ o, i.row.operand.source = some o := by
  cases i <;> cases hm
  case nopImp1A | nopImp3A | nopImp5A | nopImp7A | nopImpDA | nopImp | nopImpFA => exact .inl ⟨rfl, rfl⟩
  all_goals exact .inr ⟨_, rfl⟩

/-- No implied row has an operand to read. -/
theorem nop_implied_base {i : Instr} (hm : i.mnemonic = .nop) (ho : i.row.operand = .imp) : i.row.base = 2 := by
  obtain ⟨-, hbase⟩ | ⟨o, hsource⟩ := nop_operand hm
  · exact hbase
  · rw [ho] at hsource
    cases hsource

/-- Discarding the operand leaves the CPU of before its reads. -/
theorem opNopRead_of_cpu {s : State} {c : Cpu} (hc : s.cpu = c) (v : Byte) : opNopRead s v = { s with cpu := c } := by
  subst hc
  rfl

/-- Settles O25: an implied NOP is the implied shape around no effect, the others the reading shape around none. -/
theorem nopResult : Obligations.NopResult := by
  intro i s hm
  refine ⟨fun ho => ?_, fun o ho => ?_, (nop_operand hm).imp_left And.left⟩
  · rw [exec_nop_implied s hm ho, nop_implied_base hm ho]
    exact impliedShape_of_eq (f := opNop) rfl 2
  · exact (exec_nop s hm ho).trans (readShape_of_cpu (opNopRead_of_cpu (o.after_cpu s) (o.value s)))

end Sys2Proof.Machine

namespace Sys2Proof.Machine

/-! ## PPUSTATUS and the start of vertical blank -/

/-- A mask that a condition lets through or blanks. -/
theorem getLsbD_mask_if (c : Bool) (m : Byte) (k : Nat) : (if c then m else 0).getLsbD k = (c && m.getLsbD k) := by
  cases c <;> simp

/-- PPUSTATUS bit by bit (R1030, R1040): each condition has its own bit, and the open-bus latch the low five. -/
theorem Ppu.getLsbD_statusByte (p : Ppu) :
    p.statusByte.getLsbD 7 = (p.vbl && !p.inVblRace) ∧ p.statusByte.getLsbD 6 = p.sprite0Hit ∧
    p.statusByte.getLsbD 5 = p.overflow ∧ ∀ k, k < 5 → p.statusByte.getLsbD k = p.openBus.getLsbD k := by
  have hmask : ∀ k < 5, (0x1F : Byte).getLsbD k = true ∧ (0x20 : Byte).getLsbD k = false ∧
      (0x40 : Byte).getLsbD k = false ∧ (0x80 : Byte).getLsbD k = false := by decide
  simp only [Ppu.statusByte, BitVec.getLsbD_or, BitVec.getLsbD_and, getLsbD_mask_if]
  refine ⟨by simp, by simp, by simp, fun k hk => ?_⟩
  obtain ⟨h1F, h20, h40, h80⟩ := hmask k hk
  simp only [h1F, h20, h40, h80, Bool.and_false, Bool.and_true, Bool.false_or]

/-- Masking with $80 keeps exactly a bit 7 that is set. -/
theorem and_eq_80 {b : Byte} (h : b.getLsbD 7 = true) : b &&& 0x80 = 0x80 := by
  have hmask : ∀ i < 8, (0x80 : Byte).getLsbD i = decide (i = 7) := by decide
  apply BitVec.eq_of_getLsbD_eq
  intro i hi
  rw [BitVec.getLsbD_and, hmask i hi]
  by_cases h7 : i = 7 <;> simp [h7, h]

/-- The flag event of (241, 1) is the start of vertical blank (R1120). -/
theorem flagEvents_of_vblank {s : State} (hl : s.ppu.scanline = 241) (hd : s.ppu.dot = 1) :
    s.flagEvents = s.vblankStart := by
  unfold State.flagEvents
  rw [if_neg (by omega), if_pos ⟨hl, hd⟩]

/-- The start of vertical blank leaves the flag alone in a suppressed frame (R1040). -/
theorem vblankStart_of_suppressed {s : State} (h : s.ppu.vblSuppress = true) : s.vblankStart = s := by
  unfold State.vblankStart
  rw [if_pos h]

/-- The start of vertical blank sets the flag, and with bit 7 of PPUCTRL signals the NMI (R1120, R1410). -/
theorem vblankStart_of_nmi {s : State} (h : s.ppu.vblSuppress = false) (hc : s.ppu.ctrl.getLsbD 7 = true)
    (hn : s.ppu.nmiCallbackRegistered = true) :
    s.vblankStart = { s with ppu.vbl := true, cpu.nmiPending := true } := by
  simp [State.vblankStart, State.signalNmi, h, hc, hn]

/-- The dot (241, 1) is the flag event alone: it renders nothing, outputs no pixel and moves to dot 2. -/
theorem ppuStep_of_vblank {s : State} (hl : s.ppu.scanline = 241) (hd : s.ppu.dot = 1) :
    s.ppuStep = { s.vblankStart with ppu := { s.vblankStart.ppu with dot := 2 }, pixel := none } := by
  have hpos := flagEvents_fields s
  rw [flagEvents_of_vblank hl hd] at hpos
  obtain ⟨-, -, -, -, -, -, -, -, -, hline, hdot⟩ := hpos
  rw [ppuStep_of_idle (.inr (by simp [Ppu.renderLine, hl])), flagEvents_of_vblank hl hd]
  generalize s.vblankStart = u at hline hdot
  have hpixel : u.pixelStage = { u with pixel := none } := by
    simp [State.pixelStage, Ppu.visibleLine, hline, hl]
  have hlatch : u.ppu.expireLatch = u.ppu := by
    simp [Ppu.expireLatch, isSpriteDot, hdot, hd]
  have hadvance : u.ppu.advance = { u.ppu with dot := 2 } := by
    simp [Ppu.advance, hline, hdot, hl, hd]
  rw [hpixel, hlatch, hadvance]

theorem Ppu.inVblRace_iff (p : Ppu) : p.inVblRace = true ↔ p.scanline = 241 ∧ p.dot = 1 := by
  simp [Ppu.inVblRace]

/-- A read in the race suppresses the flag and the NMI of that frame (R1040). -/
theorem ppuStep_after_race_read {s : State} (hrace : s.ppu.inVblRace = true) :
    (s.afterRegRead 2).ppuStep.ppu.vbl = false ∧
    (s.afterRegRead 2).ppuStep.cpu.nmiPending = s.cpu.nmiPending := by
  obtain ⟨hl, hd⟩ := s.ppu.inVblRace_iff.mp hrace
  have hs : (s.afterRegRead 2).ppu.vblSuppress = true := by
    show (s.ppu.vblSuppress || s.ppu.inVblRace) = true
    rw [hrace, Bool.or_true]
  rw [ppuStep_of_vblank (s := s.afterRegRead 2) hl hd, vblankStart_of_suppressed hs]
  exact ⟨rfl, rfl⟩

/-- A read one dot later sees the flag that the dot has set, and its NMI stays pending (R1040). -/
theorem status_after_vblank_dot {s : State} (hrace : s.ppu.inVblRace = true) (hs : s.ppu.vblSuppress = false)
    (hc : s.ppu.ctrl.getLsbD 7 = true) (hn : s.ppu.nmiCallbackRegistered = true) :
    s.ppuStep.regRead 2 &&& 0x80 = 0x80 ∧ (s.ppuStep.afterRegRead 2).ppu.vbl = false ∧
    (s.ppuStep.afterRegRead 2).cpu.nmiPending = true := by
  obtain ⟨hl, hd⟩ := s.ppu.inVblRace_iff.mp hrace
  have hflag : (s.ppuStep.ppu.vbl && !s.ppuStep.ppu.inVblRace) = true := by
    rw [ppuStep_of_vblank hl hd, vblankStart_of_nmi hs hc hn]
    simp [Ppu.inVblRace]
  have hnmi : s.ppuStep.cpu.nmiPending = true := by
    rw [ppuStep_of_vblank hl hd, vblankStart_of_nmi hs hc hn]
  exact ⟨and_eq_80 (s.ppuStep.ppu.getLsbD_statusByte.1.trans hflag), rfl, hnmi⟩

/-- Settles O39: the byte bit by bit, the read's effects, and the two sides of the race. -/
theorem ppuStatusRead : Obligations.PpuStatusRead := by
  intro s
  obtain ⟨h7, h6, h5, hlow⟩ := s.ppu.getLsbD_statusByte
  exact ⟨h7, h6, h5, hlow, rfl, fun _ => rfl, ppuStep_after_race_read, status_after_vblank_dot⟩

end Sys2Proof.Machine

namespace Sys2Proof.Machine

/-! ## PPUCTRL -/

/-- Bits 1-0 of a PPUCTRL byte are bits 11-10 of t (R1010). -/
theorem getLsbD_nametableSelect (t : BitVec 15) (v : Byte) {k : Nat} (hk : k < 15) :
    ((t &&& (0x73FF : BitVec 15)) ||| ((v &&& (0x03 : Byte)).setWidth 15 <<< 10)).getLsbD k =
      if k = 10 then v.getLsbD 0 else if k = 11 then v.getLsbD 1 else t.getLsbD k := by
  have hkept : ∀ k < 15, (0x73FF : BitVec 15).getLsbD k = decide (k ≠ 10 ∧ k ≠ 11) := by decide
  have hcopied : ∀ k < 15, (0x03 : Byte).getLsbD (k - 10) = decide (k < 12) := by decide
  simp only [BitVec.getLsbD_or, BitVec.getLsbD_and, BitVec.getLsbD_shiftLeft, BitVec.getLsbD_setWidth, hkept k hk,
    hcopied k hk]
  have hcases : k < 10 ∨ k = 10 ∨ k = 11 ∨ 12 ≤ k := by omega
  rcases hcases with h | h | h | h <;> grind

/-- A PPUCTRL write as one update, with the NMI of a late enable (R1010, R1410). -/
theorem writeCtrl_eq {s : State} (hn : s.ppu.nmiCallbackRegistered = true) (v : Byte) :
    s.writeCtrl v =
      { s with
        ppu := { s.ppu with
          ctrl := v
          t := (s.ppu.t &&& (0x73FF : BitVec 15)) ||| ((v &&& (0x03 : Byte)).setWidth 15 <<< 10) }
        cpu.nmiPending := s.cpu.nmiPending ||
          (!s.ppu.ctrl.getLsbD 7 && v.getLsbD 7 && s.ppu.vbl && s.params.nmiOnCtrlEnable) } := by
  unfold State.writeCtrl
  cases hlate : !s.ppu.ctrl.getLsbD 7 && v.getLsbD 7 && s.ppu.vbl && s.params.nmiOnCtrlEnable
  · rw [Bool.or_false]
    rfl
  · simp only [State.signalNmi, hn, Bool.or_true, if_true]
    rfl

/-- Settles O40: the write as one update, and the two copied bits of t. -/
theorem ppuControlWrite : Obligations.PpuControlWrite := by
  intro s v hn
  have hwrite : s.regWrite 0 v = (s.refreshOpenBus v).writeCtrl v := rfl
  simp only [hwrite, writeCtrl_eq (s := s.refreshOpenBus v) hn]
  exact ⟨rfl, fun k hk => getLsbD_nametableSelect _ v hk⟩

/-! ## PPUSCROLL and PPUADDR -/

/-- The first PPUSCROLL byte: bits 7-3 are bits 4-0 of t (R1020). -/
theorem getLsbD_coarseX (t : BitVec 15) (v : Byte) {k : Nat} (hk : k < 15) :
    ((t &&& (0x7FE0 : BitVec 15)) ||| (v >>> 3).setWidth 15).getLsbD k =
      if k < 5 then v.getLsbD (k + 3) else t.getLsbD k := by
  have hkept : ∀ k < 15, (0x7FE0 : BitVec 15).getLsbD k = decide (5 ≤ k) := by decide
  simp only [BitVec.getLsbD_or, BitVec.getLsbD_and, BitVec.getLsbD_setWidth, BitVec.getLsbD_ushiftRight, hkept k hk]
  by_cases h : k < 5 <;> grind

/-- The second PPUSCROLL byte: bits 2-0 are bits 14-12 of t, bits 7-3 are bits 9-5 (R1020). -/
theorem getLsbD_yScroll (t : BitVec 15) (v : Byte) {k : Nat} (hk : k < 15) :
    ((t &&& (0x0C1F : BitVec 15)) ||| ((v &&& (0x07 : Byte)).setWidth 15 <<< 12) |||
      ((v >>> 3).setWidth 15 <<< 5)).getLsbD k =
      if 12 ≤ k then v.getLsbD (k - 12) else if 5 ≤ k ∧ k < 10 then v.getLsbD (k - 2) else t.getLsbD k := by
  have hkept : ∀ k < 15, (0x0C1F : BitVec 15).getLsbD k = decide (k < 12 ∧ ¬ (5 ≤ k ∧ k < 10)) := by decide
  have hfine : ∀ k < 15, (0x07 : Byte).getLsbD (k - 12) = true := by decide
  simp only [BitVec.getLsbD_or, BitVec.getLsbD_and, BitVec.getLsbD_shiftLeft, BitVec.getLsbD_setWidth,
    BitVec.getLsbD_ushiftRight, hkept k hk, hfine k hk]
  have hcases : 12 ≤ k ∨ (10 ≤ k ∧ k < 12) ∨ (5 ≤ k ∧ k < 10) ∨ k < 5 := by omega
  rcases hcases with h | h | h | h <;> grind

/-- The first PPUADDR byte: bits 5-0 are bits 13-8 of t, and bit 14 is cleared (R1021). -/
theorem getLsbD_addrHigh (t : BitVec 15) (v : Byte) {k : Nat} (hk : k < 15) :
    ((t &&& (0x00FF : BitVec 15)) ||| ((v &&& (0x3F : Byte)).setWidth 15 <<< 8)).getLsbD k =
      if 8 ≤ k ∧ k < 14 then v.getLsbD (k - 8) else if k = 14 then false else t.getLsbD k := by
  have hkept : ∀ k < 15, (0x00FF : BitVec 15).getLsbD k = decide (k < 8) := by decide
  have hcopied : ∀ k < 15, (0x3F : Byte).getLsbD (k - 8) = decide (k < 14) := by decide
  simp only [BitVec.getLsbD_or, BitVec.getLsbD_and, BitVec.getLsbD_shiftLeft, BitVec.getLsbD_setWidth, hkept k hk,
    hcopied k hk]
  have hcases : k < 8 ∨ (8 ≤ k ∧ k < 14) ∨ k = 14 := by omega
  rcases hcases with h | h | h <;> grind

/-- The second PPUADDR byte is the low byte of t (R1021). -/
theorem getLsbD_addrLow (t : BitVec 15) (v : Byte) {k : Nat} (hk : k < 15) :
    ((t &&& (0x7F00 : BitVec 15)) ||| v.setWidth 15).getLsbD k = if k < 8 then v.getLsbD k else t.getLsbD k := by
  have hkept : ∀ k < 15, (0x7F00 : BitVec 15).getLsbD k = decide (8 ≤ k) := by decide
  simp only [BitVec.getLsbD_or, BitVec.getLsbD_and, BitVec.getLsbD_setWidth, hkept k hk]
  by_cases h : k < 8 <;> grind

/-- A 15-bit word whose bits are those of a 14-bit address, as the number of its two bytes. -/
theorem toNat_of_addrBits {a : BitVec 15} {hi lo : Byte}
    (h : ∀ k, k < 15 → a.getLsbD k = if k < 8 then lo.getLsbD k else if k < 14 then hi.getLsbD (k - 8) else false) :
    a.toNat = hi.toNat % 64 * 256 + lo.toNat := by
  have hbits : a = (hi.setWidth 6 ++ lo).setWidth 15 := by
    apply BitVec.eq_of_getLsbD_eq
    intro k hk
    rw [h k hk, BitVec.getLsbD_setWidth, BitVec.getLsbD_append]
    have hcases : k < 8 ∨ (8 ≤ k ∧ k < 14) ∨ k = 14 := by omega
    rcases hcases with h | h | h <;> grind
  have hlo := lo.isLt
  rw [hbits, BitVec.toNat_setWidth, BitVec.toNat_append, BitVec.toNat_setWidth,
    ← Nat.shiftLeft_add_eq_or_of_lt hlo, Nat.shiftLeft_eq]
  omega

/-- The first PPUSCROLL write (R1020). -/
theorem regWrite_scroll_first {s : State} (hw : s.ppu.w = false) (v : Byte) :
    (s.regWrite 5 v).ppu =
      { (s.refreshOpenBus v).ppu with
        t := (s.ppu.t &&& (0x7FE0 : BitVec 15)) ||| (v >>> 3).setWidth 15
        fineX := v.setWidth 3
        w := true } := by
  show (s.refreshOpenBus v).ppu.writeScroll v = _
  rw [Ppu.writeScroll, if_neg (by simp [hw])]
  rfl

/-- The second PPUSCROLL write (R1020). -/
theorem regWrite_scroll_second {s : State} (hw : s.ppu.w = true) (v : Byte) :
    (s.regWrite 5 v).ppu =
      { (s.refreshOpenBus v).ppu with
        t := (s.ppu.t &&& (0x0C1F : BitVec 15)) ||| ((v &&& (0x07 : Byte)).setWidth 15 <<< 12) |||
          ((v >>> 3).setWidth 15 <<< 5)
        w := false } := by
  show (s.refreshOpenBus v).ppu.writeScroll v = _
  rw [Ppu.writeScroll, if_pos (show (s.refreshOpenBus v).ppu.w = true from hw)]
  rfl

/-- The first PPUADDR write (R1021). -/
theorem regWrite_addr_first {s : State} (hw : s.ppu.w = false) (v : Byte) :
    (s.regWrite 6 v).ppu =
      { (s.refreshOpenBus v).ppu with
        t := (s.ppu.t &&& (0x00FF : BitVec 15)) ||| ((v &&& (0x3F : Byte)).setWidth 15 <<< 8)
        w := true } := by
  show (s.refreshOpenBus v).ppu.writeAddr v = _
  rw [Ppu.writeAddr, if_neg (by simp [hw])]
  rfl

/-- The second PPUADDR write (R1021). -/
theorem regWrite_addr_second {s : State} (hw : s.ppu.w = true) (v : Byte) :
    (s.regWrite 6 v).ppu =
      { (s.refreshOpenBus v).ppu with
        t := (s.ppu.t &&& (0x7F00 : BitVec 15)) ||| v.setWidth 15
        v := (s.ppu.t &&& (0x7F00 : BitVec 15)) ||| v.setWidth 15
        w := false } := by
  show (s.refreshOpenBus v).ppu.writeAddr v = _
  rw [Ppu.writeAddr, if_pos (show (s.refreshOpenBus v).ppu.w = true from hw)]
  rfl

/-- A pair of PPUADDR writes leaves the 14-bit address in v, whatever t was before (R1021). -/
theorem regWrite_addr_pair {s : State} (hw : s.ppu.w = false) (hi lo : Byte) :
    ((s.regWrite 6 hi).regWrite 6 lo).ppu.v.toNat = hi.toNat % 64 * 256 + lo.toNat := by
  have hfirst := regWrite_addr_first hw hi
  refine toNat_of_addrBits fun k hk => ?_
  rw [regWrite_addr_second (congrArg Ppu.w hfirst) lo, congrArg Ppu.t hfirst, getLsbD_addrLow _ _ hk,
    getLsbD_addrHigh _ _ hk]
  have hcases : k < 8 ∨ (8 ≤ k ∧ k < 14) ∨ k = 14 := by omega
  rcases hcases with h | h | h <;> grind

/-- Settles O41: the write that `w` selects, then t bit by bit. -/
theorem scrollAndAddressWrites : Obligations.ScrollAndAddressWrites := by
  intro s v
  dsimp only
  refine ⟨fun hw => ?_, fun hw => ?_⟩
  · rw [regWrite_scroll_first hw, regWrite_addr_first hw]
    exact ⟨fun k hk => getLsbD_coarseX _ v hk, BitVec.toNat_setWidth .., rfl, rfl,
      fun k hk => getLsbD_addrHigh _ v hk, rfl, rfl, rfl, regWrite_addr_pair hw v⟩
  · rw [regWrite_scroll_second hw, regWrite_addr_second hw]
    exact ⟨fun k hk => getLsbD_yScroll _ v hk, rfl, rfl, rfl,
      fun k hk => getLsbD_addrLow _ v hk, rfl, rfl, rfl⟩

end Sys2Proof.Machine

namespace Sys2Proof.Machine

/-! ## PPUMASK, OAMADDR, OAMDATA and the open-bus latch -/

/-- Every register write puts its byte in the open-bus latch, and nothing of the write undoes that (R1001). -/
theorem regWrite_openBus (s : State) (r : BitVec 3) (v : Byte) :
    (s.regWrite r v).ppu.openBus = v ∧ (s.regWrite r v).ppu.openBusAge = 0 := by
  unfold State.regWrite
  dsimp only
  split
  · unfold State.writeCtrl
    dsimp only
    split
    · rw [signalNmi_eq]
      exact ⟨rfl, rfl⟩
    · exact ⟨rfl, rfl⟩
  · exact ⟨rfl, rfl⟩
  · exact ⟨rfl, rfl⟩
  · unfold Ppu.writeOamData
    split <;> exact ⟨rfl, rfl⟩
  · unfold Ppu.writeScroll
    split <;> exact ⟨rfl, rfl⟩
  · unfold Ppu.writeAddr
    split <;> exact ⟨rfl, rfl⟩
  · unfold State.writePpuData
    rw [ppuWrite_eq]
    exact ⟨rfl, rfl⟩
  · exact ⟨rfl, rfl⟩

/-- A write-only register reads as the open-bus latch, without an effect (R1003). -/
theorem regRead_of_writeOnly (s : State) {r : BitVec 3} (h : r ∈ [0, 1, 3, 5, (6 : BitVec 3)]) :
    s.regRead r = s.ppu.openBus ∧ s.afterRegRead r = s := by
  simp only [List.mem_cons, List.not_mem_nil, or_false] at h
  rcases h with rfl | rfl | rfl | rfl | rfl <;> exact ⟨rfl, rfl⟩

/-- Bits 7-5 of PPUMASK reach neither a pixel nor its colour (R1011). -/
theorem pixel_of_low_mask (p : Ppu) (xp idx : Nat) :
    let q := { p with mask := p.mask &&& 0x1F }
    q.bgPixel xp = p.bgPixel xp ∧ q.bgPalette = p.bgPalette ∧ q.spritePixel xp = p.spritePixel xp ∧
    q.colourAt idx = p.colourAt idx := by
  have hmask : ∀ k < 5, (0x1F : Byte).getLsbD k = true := by decide
  have hbit : ∀ k < 5, (p.mask &&& 0x1F).getLsbD k = p.mask.getLsbD k := fun k hk => by
    rw [BitVec.getLsbD_and, hmask k hk, Bool.and_true]
  refine ⟨?_, rfl, ?_, ?_⟩
  · simp only [Ppu.bgPixel, hbit 3 (by decide), hbit 1 (by decide)]
  · simp only [Ppu.spritePixel, hbit 4 (by decide), hbit 2 (by decide)]
  · simp only [Ppu.colourAt, Ppu.greyscale, Ppu.paletteEntry, hbit 0 (by decide)]

/-- OAMADDR is among the fields that no dot writes. -/
theorem ppuStep_oamAddr (s : State) : s.ppuStep.ppu.oamAddr = s.ppu.oamAddr := by
  have hfixed := ppuStep_fixed s
  simp only [Ppu.fixed, Prod.mk.injEq] at hfixed
  obtain ⟨-, -, hoamAddr, -⟩ := hfixed
  exact hoamAddr

theorem Ppu.rendering_iff (p : Ppu) :
    p.rendering = true ↔ p.renderingEnabled = true ∧ -1 ≤ p.scanline ∧ p.scanline ≤ 239 := by
  simp [Ppu.rendering, and_assoc]

/-- An OAMDATA write during rendering is ignored; any other stores and moves OAMADDR on (R1016). -/
theorem regWrite_oamData (s : State) (v : Byte) :
    s.regWrite 4 v =
      if s.ppu.renderingEnabled = true ∧ -1 ≤ s.ppu.scanline ∧ s.ppu.scanline ≤ 239 then
        { s with ppu := { s.ppu with openBus := v, openBusAge := 0 } }
      else
        { s with
          ppu := { s.ppu with
            oam := s.ppu.oam.write s.ppu.oamAddr.toNat v
            oamAddr := s.ppu.oamAddr + 1
            openBus := v
            openBusAge := 0 } } := by
  have hwrite : s.regWrite 4 v =
      { s.refreshOpenBus v with ppu := (s.refreshOpenBus v).ppu.writeOamData v } := rfl
  rw [hwrite, Ppu.writeOamData]
  have hr : (s.refreshOpenBus v).ppu.rendering = s.ppu.rendering := rfl
  simp only [hr, Ppu.rendering_iff]
  split <;> rfl

/-- Settles O42: each register's write and read, and what PPUMASK and OAMADDR do to a dot. -/
theorem oamAndOpenBusRegisters : Obligations.OamAndOpenBusRegisters := by
  intro s v
  refine ⟨fun r => regWrite_openBus s r v, fun r hr => regRead_of_writeOnly s hr, rfl, ?_,
    pixel_of_low_mask s.ppu, rfl, ppuStep_oamAddr s, ⟨rfl, rfl⟩, regWrite_oamData s v⟩
  rw [Ppu.renderingEnabled, Bool.or_eq_true]

/-! ## PPUDATA -/

/-- The step of v as a number (R1025). -/
theorem Ppu.incrementV_eq (p : Ppu) :
    p.incrementV =
      { p with v := BitVec.ofNat 15 ((p.v.toNat + (if p.ctrl.getLsbD 2 then 32 else 1)) % 0x8000) } := by
  have hv : p.v + (if p.ctrl.getLsbD 2 then 32 else 1) =
      BitVec.ofNat 15 ((p.v.toNat + (if p.ctrl.getLsbD 2 then 32 else 1)) % 0x8000) := by
    apply BitVec.eq_of_toNat_eq
    cases p.ctrl.getLsbD 2 <;> simp
  rw [Ppu.incrementV, hv]

/-- A PPUDATA read below $3F00 returns the buffer, a palette read the palette byte (R1026). -/
theorem regRead_data (s : State) :
    s.regRead 7 = if 0x3F00 ≤ s.ppu.dataAddr.toNat then s.ppuRead s.ppu.dataAddr else s.ppu.readBuffer := by
  show (if isPaletteAddr s.ppu.dataAddr then s.ppuRead s.ppu.dataAddr else s.ppu.readBuffer) = _
  simp only [isPaletteAddr, decide_eq_true_eq]

/-- A PPUDATA read refills the buffer from the PPU address and moves v on (R1025, R1026). -/
theorem afterRegRead_data (s : State) :
    s.afterRegRead 7 =
      { s with
        cart := (s.afterPpuRead s.ppu.dataAddr).cart
        ppu := { s.ppu with readBuffer := s.ppuRead s.ppu.dataAddr }.incrementV } := by
  show { s.afterPpuRead s.ppu.dataAddr with
    ppu := { (s.afterPpuRead s.ppu.dataAddr).ppu with readBuffer := s.ppuRead s.ppu.dataAddr }.incrementV } = _
  rw [afterPpuRead_eq]

/-- A PPUDATA write goes to the PPU address, and the step starts from the v that gave it (R1025). -/
theorem regWrite_data (s : State) (v : Byte) :
    let u := (s.refreshOpenBus v).ppuWrite s.ppu.dataAddr v
    s.regWrite 7 v =
      { u with ppu := { u.ppu with
          v := BitVec.ofNat 15 ((s.ppu.v.toNat + (if s.ppu.ctrl.getLsbD 2 then 32 else 1)) % 0x8000) } } := by
  intro u
  have hwrite : s.regWrite 7 v = { u with ppu := u.ppu.incrementV } := rfl
  obtain ⟨hv, hctrl⟩ : s.ppu.v = u.ppu.v ∧ s.ppu.ctrl = u.ppu.ctrl := by
    rw [show u = _ from ppuWrite_eq _ _ _]
    exact ⟨rfl, rfl⟩
  rw [hwrite, Ppu.incrementV_eq, hv, hctrl]

/-- Settles O43: the read through the buffer, the write, and the step of v after each. -/
theorem ppuDataAccess : Obligations.PpuDataAccess := by
  intro s v
  refine ⟨regRead_data s, ?_, ?_, regWrite_data s v⟩
  · rw [afterRegRead_data, Ppu.incrementV_eq]
    rfl
  · rw [or_iff_not_imp_left]
    intro hbelow
    rw [regRead_data, if_neg hbelow, afterRegRead_data]
    rfl

end Sys2Proof.Machine

namespace Sys2Proof.Machine

/-! ## The PPU address space -/

/-- The palette cell of an address as a number (R1103). -/
theorem toNat_palIndex (a : BitVec 14) :
    (palIndex a).toNat = if a.toNat % 32 % 4 = 0 then a.toNat % 16 else a.toNat % 32 := by
  have hcell : ∀ i : BitVec 5, (if i &&& 0x13 = 0x10 then i &&& 0x0F else i).toNat =
      if i.toNat % 4 = 0 then i.toNat % 16 else i.toNat := by decide
  have hlow : (a.setWidth 5).toNat = a.toNat % 32 := BitVec.toNat_setWidth ..
  rw [palIndex, hcell, hlow]
  split <;> omega

theorem isPaletteAddr_iff (a : BitVec 14) : isPaletteAddr a = true ↔ 0x3F00 ≤ a.toNat := decide_eq_true_iff

/-- A palette entry holds six bits of the byte written to it (R127). -/
theorem setWidth_setWidth_six (v : Byte) : (v.setWidth 6).setWidth 8 = v &&& 0x3F := by
  apply BitVec.eq_of_getLsbD_eq
  intro i hi
  have hmask : ∀ i < 8, (0x3F : Byte).getLsbD i = decide (i < 6) := by decide
  rw [BitVec.getLsbD_setWidth, BitVec.getLsbD_setWidth, BitVec.getLsbD_and, hmask i hi]
  simp [hi, Bool.and_comm]

/-- A read from the palette after a write to it (R1101, R1103). -/
theorem ppuRead_ppuWrite_palette {s : State} {a b : BitVec 14} (v : Byte) (ha : 0x3F00 ≤ a.toNat)
    (hb : 0x3F00 ≤ b.toNat) :
    (s.ppuWrite a v).ppuRead b =
      if (palIndex b).toNat = (palIndex a).toNat then v &&& 0x3F else s.ppuRead b := by
  rw [← isPaletteAddr_iff] at ha hb
  simp only [State.ppuWrite, State.ppuRead, Ppu.paletteEntry, if_pos ha, if_pos hb, Vector.get_eq_getElem,
    BitVec.val_toFin, Vector.getElem_set, eq_comm (a := (palIndex b).toNat)]
  split
  · exact setWidth_setWidth_six v
  · rfl

/-- Under vertical mirroring address bit 10 selects the VRAM bank (R1102). -/
theorem vramIndex_of_vertical {c : Cartridge} (h : c.currentMirroring = .vertical) (a : BitVec 14) :
    c.vramIndex a = a.toNat / 0x400 % 2 * 0x400 + a.toNat % 0x400 := by
  have hbit : a.getLsbD 10 = decide (a.toNat / 0x400 % 2 = 1) := Nat.testBit_eq_decide_div_mod_eq ..
  rw [Cartridge.vramIndex, h]
  simp only [hbit, decide_eq_true_eq]
  split <;> omega

/-- Under horizontal mirroring address bit 11 selects the VRAM bank (R1102). -/
theorem vramIndex_of_horizontal {c : Cartridge} (h : c.currentMirroring = .horizontal) (a : BitVec 14) :
    c.vramIndex a = a.toNat / 0x800 % 2 * 0x400 + a.toNat % 0x400 := by
  have hbit : a.getLsbD 11 = decide (a.toNat / 0x800 % 2 = 1) := Nat.testBit_eq_decide_div_mod_eq ..
  rw [Cartridge.vramIndex, h]
  simp only [hbit, decide_eq_true_eq]
  split <;> omega

/-- A read in $2000-$3EFF is of the VRAM byte that the cartridge selects (R1102). -/
theorem ppuRead_vram {s : State} {c : Cartridge} {a : BitVec 14} (hc : s.cart = some c) (h1 : 0x2000 ≤ a.toNat)
    (h2 : a.toNat < 0x3F00) : s.ppuRead a = s.vram.read (c.vramIndex a) := by
  have hp : ¬ isPaletteAddr a = true := by rw [isPaletteAddr_iff]; omega
  have hv : vramEnabled a = true := by simp [vramEnabled]; omega
  simp [State.ppuRead, State.vramTarget, Cartridge.ppuRead, hp, hv, hc, show ¬ a.toNat < 0x2000 by omega]

/-- A read below $2000 is of CHR memory (R1210). -/
theorem ppuRead_chr {s : State} {c : Cartridge} {a : BitVec 14} (hc : s.cart = some c) (h : a.toNat < 0x2000) :
    s.ppuRead a = c.chr.read (c.chrIndex a) := by
  have hp : ¬ isPaletteAddr a = true := by rw [isPaletteAddr_iff]; omega
  simp [State.ppuRead, Cartridge.ppuRead, hp, hc, h]

theorem snoopPpuBus_cart {s : State} {c : Cartridge} (hc : s.cart = some c) (a : BitVec 14) :
    (s.snoopPpuBus a).cart = some (c.snoop s.params.mmc3A12M2Min a) := by
  rw [State.snoopPpuBus, hc]; rfl

/-- A read in $2000-$3EFF after a write there (R1102). -/
theorem ppuRead_ppuWrite_vram {s : State} {c : Cartridge} {a b : BitVec 14} (hc : s.cart = some c) (v : Byte)
    (ha1 : 0x2000 ≤ a.toNat) (ha2 : a.toNat < 0x3F00) (hb1 : 0x2000 ≤ b.toNat) (hb2 : b.toNat < 0x3F00) :
    (s.ppuWrite a v).ppuRead b = if c.vramIndex b = c.vramIndex a then v else s.ppuRead b := by
  have hp : ¬ isPaletteAddr a = true := by rw [isPaletteAddr_iff]; omega
  have hv : vramEnabled a = true := by simp [vramEnabled]; omega
  have hwrite : s.ppuWrite a v = { s.snoopPpuBus a with vram := s.vram.write (c.vramIndex a) v } := by
    simp only [State.ppuWrite, if_neg hp, State.ppuBusWrite, snoopPpuBus_cart hc, Option.bind_some,
      Cartridge.ppuWrite, show ¬ a.toNat < 0x2000 by omega, if_false, State.vramTarget, hv, if_true, Option.map_some,
      Cartridge.snoop_vramIndex]
    rfl
  have hcart : (s.ppuWrite a v).cart = some (c.snoop s.params.mmc3A12M2Min a) := by
    rw [hwrite]; exact snoopPpuBus_cart hc a
  rw [ppuRead_vram hcart hb1 hb2, ppuRead_vram hc hb1 hb2, hwrite, Cartridge.snoop_vramIndex, Memory.read_write]
  simp only [eq_comm]

/-- A write below $2000 stores the byte in CHR-RAM, and leaves CHR-ROM (R1210). -/
theorem ppuWrite_chr {s : State} {c : Cartridge} {a : BitVec 14} (hc : s.cart = some c) (v : Byte)
    (h : a.toNat < 0x2000) :
    (s.ppuWrite a v).cart = some { c.snoop s.params.mmc3A12M2Min a with
      chr := if c.chrBanks = 0 then c.chr.write (c.chrIndex a) v else c.chr } := by
  have hp : ¬ isPaletteAddr a = true := by rw [isPaletteAddr_iff]; omega
  simp only [State.ppuWrite, if_neg hp, State.ppuBusWrite, snoopPpuBus_cart hc, Option.bind_some, Cartridge.ppuWrite,
    if_pos h, Cartridge.chrIsRam, Cartridge.snoop_chrBanks, Cartridge.snoop_chr, Cartridge.snoop_chrIndex, beq_iff_eq]
  split
  · rfl
  · simp only [← Cartridge.snoop_chr c s.params.mmc3A12M2Min a,
      ← Cartridge.snoop_chrBanks c s.params.mmc3A12M2Min a]

/-- A read below $2000 after a write there: the byte written, when CHR memory is RAM (R1210). -/
theorem ppuRead_ppuWrite_chr {s : State} {c : Cartridge} {a : BitVec 14} (hc : s.cart = some c) (v : Byte)
    (h : a.toNat < 0x2000) : (s.ppuWrite a v).ppuRead a = if c.chrBanks = 0 then v else s.ppuRead a := by
  have hindex : ∀ m, { c.snoop s.params.mmc3A12M2Min a with chr := m }.chrIndex a = c.chrIndex a :=
    fun _ => Cartridge.snoop_chrIndex ..
  rw [ppuRead_chr (ppuWrite_chr hc v h) h, ppuRead_chr hc h, hindex]
  split
  · exact Memory.read_write_same ..
  · rfl

/-- Settles O44: a read after a write in each of the three ranges, and each range's cell as a number. -/
theorem ppuAddressSpace : Obligations.PpuAddressSpace := by
  intro s c a b v hc
  refine ⟨fun ha hb => ⟨?_, ?_⟩, fun ha1 ha2 hb1 hb2 => ?_,
    fun ha => ⟨ppuRead_chr hc ha, ppuRead_ppuWrite_chr hc v ha⟩⟩
  · rw [ppuRead_ppuWrite_palette v ha hb, toNat_palIndex, toNat_palIndex]
  · rw [State.ppuWrite, if_pos ((isPaletteAddr_iff a).mpr ha)]
  · rw [ppuRead_ppuWrite_vram hc v ha1 ha2 hb1 hb2]
    cases hm : c.currentMirroring
    · rw [vramIndex_of_horizontal hm, vramIndex_of_horizontal hm]
    · rw [vramIndex_of_vertical hm, vramIndex_of_vertical hm]

end Sys2Proof.Machine

namespace Sys2Proof.Machine

/-! ## The dot counter -/

/-- A PPU at the `i`-th of its frame's 262 lines of 341 dots, counted from (-1, 0). -/
def Ppu.atIndex (p : Ppu) (i : Nat) : Ppu := { p with scanline := (i / 341 : Nat) - 1, dot := i % 341 }

/-- Where `k` dots from (-1, 0) lead: an odd frame with rendering enabled leaves out dot 340 of line -1 (R1105). -/
def Ppu.indexAfter (p : Ppu) (k : Nat) : Nat :=
  if p.frame % 2 = 1 ∧ p.renderingEnabled = true ∧ 340 ≤ k then k + 1 else k

theorem Ppu.atIndex_eq (p : Ppu) {i : Nat} {line : Int} {dot : Nat} (hl : ((i / 341 : Nat) : Int) - 1 = line)
    (hd : i % 341 = dot) : p.atIndex i = { p with scanline := line, dot := dot } := by
  rw [Ppu.atIndex, hl, hd]

/-- The skip (R1105). -/
theorem Ppu.advance_of_skip {p : Ppu}
    (h : p.scanline = -1 ∧ p.dot = 339 ∧ p.frame % 2 = 1 ∧ p.renderingEnabled = true) :
    p.advance = { p with scanline := 0, dot := 0 } := by
  rw [Ppu.advance, if_pos h]

/-- Away from the skip, a dot before dot 340 is followed by the next dot (R1105). -/
theorem Ppu.advance_of_dot {p : Ppu}
    (h : ¬ (p.scanline = -1 ∧ p.dot = 339 ∧ p.frame % 2 = 1 ∧ p.renderingEnabled = true)) (hd : p.dot < 340) :
    p.advance = { p with dot := p.dot + 1 } := by
  rw [Ppu.advance, if_neg h, if_pos (by omega)]

/-- A line before line 260 is followed by the next line (R1105). -/
theorem Ppu.advance_of_line {p : Ppu} (hd : p.dot = 340) (hl : p.scanline < 260) :
    p.advance = { p with dot := 0, scanline := p.scanline + 1 } := by
  rw [Ppu.advance, if_neg (by omega), if_neg (by omega), if_pos (by omega)]

/-- After (260, 340) comes the next frame (R1105, R1002). -/
theorem Ppu.advance_of_frame {p : Ppu} (hd : p.dot = 340) (hl : p.scanline = 260) :
    p.advance = { p with dot := 0, scanline := -1, frame := p.frame + 1 }.decayOpenBus := by
  rw [Ppu.advance, if_neg (by omega), if_neg (by omega), if_neg (by omega)]

/-- Within a frame each dot moves the index by one, the skip by two. -/
theorem Ppu.advance_atIndex (p : Ppu) {k : Nat} (h : p.indexAfter k < 89341) :
    (p.atIndex (p.indexAfter k)).advance = p.atIndex (p.indexAfter (k + 1)) := by
  generalize hi : p.indexAfter k = i at h ⊢
  by_cases hskip : i = 339 ∧ p.frame % 2 = 1 ∧ p.renderingEnabled = true
  · obtain ⟨rfl, hodd, hr⟩ := hskip
    have hk : p.indexAfter (k + 1) = 341 := by
      simp only [Ppu.indexAfter, hodd, hr, true_and] at hi ⊢
      split at hi <;> grind
    rw [hk]
    exact Ppu.advance_of_skip (p := p.atIndex 339) ⟨rfl, rfl, hodd, hr⟩
  · have hk : p.indexAfter (k + 1) = i + 1 := by
      simp only [Ppu.indexAfter] at hi ⊢
      grind
    rw [hk]
    have hline : (p.atIndex i).scanline = (i / 341 : Nat) - 1 := rfl
    have hdot : (p.atIndex i).dot = i % 341 := rfl
    by_cases hd : i % 341 < 340
    · have hno : ¬ ((p.atIndex i).scanline = -1 ∧ (p.atIndex i).dot = 339 ∧ (p.atIndex i).frame % 2 = 1 ∧
          (p.atIndex i).renderingEnabled = true) := by
        rintro ⟨h1, h2, h3⟩
        exact hskip ⟨by omega, h3⟩
      rw [Ppu.advance_of_dot hno hd]
      exact (p.atIndex_eq (by omega) (by omega)).symm
    · rw [Ppu.advance_of_line (by omega) (by omega)]
      exact (p.atIndex_eq (by omega) (by omega)).symm

theorem Ppu.iterate_advance {p : Ppu} (hl : p.scanline = -1) (hd : p.dot = 0) {k : Nat} (h : p.indexAfter k ≤ 89341) :
    Ppu.advance^[k] p = p.atIndex (p.indexAfter k) := by
  induction k with
  | zero =>
    rw [show p.indexAfter 0 = 0 by simp [Ppu.indexAfter]]
    exact (p.atIndex_eq (by rw [hl]; rfl) (by rw [hd])).symm
  | succ k ih =>
    have hk : p.indexAfter k < 89341 := by
      simp only [Ppu.indexAfter] at h ⊢
      grind
    rw [Function.iterate_succ_apply', ih hk.le, p.advance_atIndex hk]

/-- Settles O45: one step by its four cases, and a frame by the index that counts its dots. -/
theorem dotAdvance : Obligations.DotAdvance := by
  refine ⟨fun p _ => ⟨Ppu.advance_of_skip, Ppu.advance_of_dot, Ppu.advance_of_line, Ppu.advance_of_frame⟩, ?_⟩
  intro p hl hd n q
  have hlast : p.indexAfter (n - 1) = 89341 := by
    simp only [Ppu.indexAfter, n]
    grind
  have hn : n - 1 + 1 = n := by
    simp only [n]
    grind
  have hq : q = { p with dot := 0, scanline := -1, frame := p.frame + 1 }.decayOpenBus := by
    simp only [q]
    rw [← hn, Function.iterate_succ_apply', Ppu.iterate_advance hl hd hlast.le, hlast]
    exact Ppu.advance_of_frame (p := p.atIndex 89341) rfl rfl
  refine ⟨by rw [hq]; rfl, by rw [hq]; rfl, by rw [hq]; rfl, fun k hk0 hkn => ?_⟩
  have hk : 0 < p.indexAfter k ∧ p.indexAfter k ≤ 89341 := by
    simp only [Ppu.indexAfter, n] at hkn ⊢
    grind
  rw [Ppu.iterate_advance hl hd hk.2]
  rintro ⟨h1, h2⟩
  have h1' : ((p.indexAfter k / 341 : Nat) : Int) - 1 = -1 := h1
  have h2' : p.indexAfter k % 341 = 0 := h2
  omega
end Sys2Proof.Machine

namespace Sys2Proof.Machine

/-! ## The dot before its pixel -/

/-- The flags of vertical blank. -/
def Ppu.vblank (p : Ppu) := (p.vbl, p.vblSuppress)

/-- The state that a dot's pixel is taken from: after the flag events and, when the dot renders, the stages (R1160). -/
def State.beforePixel (s : State) : State :=
  if s.flagEvents.ppu.renderLine && s.flagEvents.ppu.renderingEnabled then s.flagEvents.renderStages else s.flagEvents

theorem ppuStep_def (s : State) :
    s.ppuStep = { s.beforePixel.pixelStage with ppu := s.beforePixel.pixelStage.ppu.expireLatch.advance } := rfl

/-- Before the sprite stages the dot has written only the shift registers, the latches and v. -/
theorem beforeEvaluation_ppu (s : State) :
    s.shifted.backgroundStage.ppu.scrollStage =
      { s.ppu with
        bgPatLo := s.ppu.shiftStage.bgPatLo
        bgPatHi := s.ppu.shiftStage.bgPatHi
        bgAttrLo := s.ppu.shiftStage.bgAttrLo
        bgAttrHi := s.ppu.shiftStage.bgAttrHi
        ntNext := s.shifted.backgroundStage.ppu.ntNext
        atNext := s.shifted.backgroundStage.ppu.atNext
        patLoNext := s.shifted.backgroundStage.ppu.patLoNext
        patHiNext := s.shifted.backgroundStage.ppu.patHiNext
        v := s.shifted.backgroundStage.ppu.scrollStage.v } := by
  have hshift := Ppu.shiftStage_eq s.ppu
  have hback := backgroundStage_ppu s.shifted
  have hscroll := Ppu.scrollStage_eq s.shifted.backgroundStage.ppu
  unfold State.shifted at hback hscroll ⊢
  generalize State.backgroundStage _ = t at hback hscroll ⊢
  generalize t.ppu.scrollStage = r at hscroll ⊢
  generalize s.ppu.shiftStage = q at hshift hback ⊢
  rw [hscroll, hback, hshift]

/-- The stages leave the flags of vertical blank. -/
theorem renderStages_vblank (s : State) : s.renderStages.ppu.vblank = s.ppu.vblank :=
  calc s.renderStages.ppu.vblank
    _ = s.beforeSprites.ppu.vblank := (congrArg Ppu.vblank (spriteStage_ppu s.beforeSprites) :)
    _ = s.shifted.backgroundStage.ppu.scrollStage.vblank := (congrArg Ppu.vblank (Ppu.evaluateStage_eq _) :)
    _ = s.ppu.vblank := (congrArg Ppu.vblank (beforeEvaluation_ppu s) :)

/-- What a dot's stages leave for its pixel and its end: the registers, the position, and what the flag events set. -/
theorem beforePixel_fields (s : State) :
    s.beforePixel.ppu.fixed = s.ppu.fixed ∧ s.beforePixel.ppu.scanline = s.ppu.scanline ∧
    s.beforePixel.ppu.dot = s.ppu.dot ∧ s.beforePixel.ppu.sprite0Hit = s.flagEvents.ppu.sprite0Hit ∧
    s.beforePixel.ppu.vblank = s.flagEvents.ppu.vblank ∧ s.beforePixel.cpu = s.flagEvents.cpu ∧
    s.beforePixel.params = s.params := by
  obtain ⟨hfixed, -, -, -, -, -, -, -, -, hline, hdot⟩ := flagEvents_fields s
  have hparams : s.flagEvents.params = s.params := by rw [flagEvents_eq]
  unfold State.beforePixel
  split
  · obtain ⟨rfixed, -, -, -, -, rhit, rline, rdot⟩ := renderStages_ppu s.flagEvents
    exact ⟨rfixed.trans hfixed, rline.trans hline, rdot.trans hdot, rhit, renderStages_vblank _,
      by rw [renderStages_eq], by rw [renderStages_eq, hparams]⟩
  · exact ⟨hfixed, hline, hdot, rfl, rfl, rfl, hparams⟩

/-- Only the flag events of a dot change the flags of vertical blank and the NMI latch. -/
theorem ppuStep_vblank (s : State) :
    s.ppuStep.ppu.vblank = s.flagEvents.ppu.vblank ∧ s.ppuStep.cpu = s.flagEvents.cpu := by
  obtain ⟨-, -, -, -, hvblank, hcpu, -⟩ := beforePixel_fields s
  rw [ppuStep_def]
  refine ⟨?_, (pixelStage_cpu _).trans hcpu⟩
  calc s.beforePixel.pixelStage.ppu.expireLatch.advance.vblank
    _ = s.beforePixel.pixelStage.ppu.vblank := (congrArg Ppu.vblank (Ppu.endOfDot_eq s.beforePixel.pixelStage.ppu) :)
    _ = s.beforePixel.ppu.vblank := (congrArg Ppu.vblank (pixelStage_ppu s.beforePixel) :)
    _ = s.flagEvents.ppu.vblank := hvblank

/-- Whether a position is one of dots 1 to 256 of a visible line (R1152). -/
def Ppu.inPicture (p : Ppu) : Prop := 0 ≤ p.scanline ∧ p.scanline ≤ 239 ∧ 1 ≤ p.dot ∧ p.dot ≤ 256

theorem pixelStage_of_outside {s : State} (h : ¬ s.ppu.inPicture) : s.pixelStage = { s with pixel := none } := by
  rw [State.pixelStage, if_neg]
  simpa [Ppu.visibleLine, Ppu.inPicture, and_assoc] using h

/-- Outside the picture a dot makes no sink call, and only the flag events reach sprite-0 hit. -/
theorem ppuStep_of_outside {s : State} (h : ¬ s.ppu.inPicture) :
    s.ppuStep.pixel = none ∧ s.ppuStep.ppu.sprite0Hit = s.flagEvents.ppu.sprite0Hit := by
  obtain ⟨-, hline, hdot, hhit, -⟩ := beforePixel_fields s
  have hout : ¬ s.beforePixel.ppu.inPicture := by
    rwa [Ppu.inPicture, hline, hdot]
  rw [ppuStep_def, pixelStage_of_outside hout]
  exact ⟨rfl, ((Ppu.endOfDot_fields _).2.2.2.2.2.2.2).trans hhit⟩

/-! ## The evaluation's results through a dot -/

/-- What the evaluation stage writes, by its dots (R1140-R1142). -/
theorem Ppu.evaluateStage_evaluated (p : Ppu) :
    p.evaluateStage.evaluated =
      if p.visibleLine && p.dot == 64 then p.clearSecOam.evaluated
      else if p.visibleLine && p.dot == 256 then p.evaluate.evaluated
      else if p.dot = 257 then p.startSprites.evaluated
      else p.evaluated := by
  rw [Ppu.evaluateStage, apply_ite Ppu.evaluated, apply_ite Ppu.evaluated, apply_ite Ppu.evaluated]

/-- The evaluation's results before the sprite stage are what the evaluation stage makes of the dot's start. -/
theorem beforeSprites_evaluated (s : State) : s.beforeSprites.ppu.evaluated = s.ppu.evaluateStage.evaluated := by
  show s.shifted.backgroundStage.ppu.scrollStage.evaluateStage.evaluated = _
  rw [beforeEvaluation_ppu s, Ppu.evaluateStage_evaluated, Ppu.evaluateStage_evaluated]
  rfl

/-- After a rendering dot the evaluation's results are what the evaluation stage makes of the flag events. -/
theorem ppuStep_evaluated_of_rendering {s : State} (h : s.ppu.renderingEnabled = true)
    (hl : s.ppu.renderLine = true) : s.ppuStep.ppu.evaluated = s.flagEvents.ppu.evaluateStage.evaluated := by
  obtain ⟨-, -, -, he, -⟩ := ppuStep_fields_of_rendering h hl
  exact he.trans (beforeSprites_evaluated _)

/-- A dot that does not render leaves the evaluation's results as the flag events left them. -/
theorem ppuStep_evaluated_of_idle {s : State} (h : s.ppu.renderingEnabled = false ∨ s.ppu.renderLine = false) :
    s.ppuStep.ppu.evaluated = s.flagEvents.ppu.evaluated := by
  obtain ⟨-, -, -, -, hend, -⟩ := Ppu.endOfDot_fields s.flagEvents.pixelStage.ppu
  obtain ⟨-, -, -, -, hpixel, -⟩ := pixelStage_fields s.flagEvents
  rw [ppuStep_of_idle h]
  exact hend.trans hpixel

/-- At other dots than 64, 256 and 257 only the flag events change the evaluation's results. -/
theorem ppuStep_evaluated_of_dot {s : State} (h64 : s.ppu.dot ≠ 64) (h256 : s.ppu.dot ≠ 256)
    (h257 : s.ppu.dot ≠ 257) : s.ppuStep.ppu.evaluated = s.flagEvents.ppu.evaluated := by
  by_cases hr : s.ppu.renderingEnabled = true ∧ s.ppu.renderLine = true
  · obtain ⟨-, -, -, -, -, -, -, -, -, -, hdot⟩ := flagEvents_fields s
    rw [ppuStep_evaluated_of_rendering hr.1 hr.2, Ppu.evaluateStage_evaluated]
    simp [hdot, h64, h256, h257]
  · exact ppuStep_evaluated_of_idle (by rwa [not_and_or, Bool.not_eq_true, Bool.not_eq_true] at hr)

/-! ## The flag events -/

/-- The flag event of (-1, 1) is the clear (R1110). -/
theorem flagEvents_of_clear {s : State} (hl : s.ppu.scanline = -1) (hd : s.ppu.dot = 1) :
    s.flagEvents = { s with ppu := s.ppu.clearFlags } := by
  rw [State.flagEvents, if_pos ⟨hl, hd⟩]

/-- The start of vertical blank writes only its flag in the PPU (R1120). -/
theorem vblankStart_ppu (s : State) : s.vblankStart.ppu = { s.ppu with vbl := s.vblankStart.ppu.vbl } := by
  rw [State.vblankStart]
  split
  · rfl
  · dsimp only
    split
    · rw [signalNmi_eq]
    · rfl

/-- The start of vertical blank as one update (R1120, R1410). -/
theorem vblankStart_eq {s : State} (hn : s.ppu.nmiCallbackRegistered = true) :
    s.vblankStart =
      { s with
        ppu.vbl := s.ppu.vbl || !s.ppu.vblSuppress
        cpu.nmiPending := s.cpu.nmiPending || (s.ppu.ctrl.getLsbD 7 && !s.ppu.vblSuppress) } := by
  cases hs : s.ppu.vblSuppress
  · cases hc : s.ppu.ctrl.getLsbD 7
    · simp only [State.vblankStart, hs, hc, Bool.false_eq_true, if_false, Bool.not_false, Bool.or_true,
        Bool.false_and, Bool.or_false]
    · simp [vblankStart_of_nmi hs hc hn]
  · simp [vblankStart_of_suppressed hs]

/-- Settles O46: the flag events of the three kinds of dot, and no later stage reaches the flags they set. -/
theorem vblankAndFlagEvents : Obligations.VblankAndFlagEvents := by
  intro s hn t
  obtain ⟨hflags, hcpu⟩ := ppuStep_vblank s
  obtain ⟨hvbl, hsuppress⟩ := Prod.mk.inj hflags
  have hnmi : t.cpu.nmiPending = s.flagEvents.cpu.nmiPending := congrArg Cpu.nmiPending hcpu
  refine ⟨fun hl hd => ?_, fun hl hd => ?_, fun hnv hnc => ?_⟩
  · rw [hvbl, hsuppress, hnmi, flagEvents_of_vblank hl hd, vblankStart_eq hn]
    exact ⟨rfl, rfl, rfl⟩
  · obtain ⟨-, hhit⟩ := ppuStep_of_outside (s := s) (fun h => by have := h.1; omega)
    have he := ppuStep_evaluated_of_dot (s := s) (by omega) (by omega) (by omega)
    rw [flagEvents_of_clear hl hd] at hvbl hsuppress hnmi hhit he
    simp only [Ppu.evaluated, Prod.mk.injEq] at he
    obtain ⟨-, hcount, hzero, hover, -⟩ := he
    exact ⟨hvbl, hhit, hover, hsuppress, hcount, hzero, hnmi⟩
  · rw [hvbl, hsuppress, hnmi, flagEvents_of_ne hnc hnv]
    exact ⟨rfl, rfl, rfl⟩

end Sys2Proof.Machine

namespace Sys2Proof.Machine

/-! ## Scroll updates as numbers -/

/-- A scroll word from its fields: fine Y, the two nametable bits, coarse Y, coarse X (R121). -/
def scrollWord (fineY : BitVec 3) (ntY ntX : BitVec 1) (coarseY coarseX : BitVec 5) : BitVec 15 :=
  fineY ++ ntY ++ ntX ++ coarseY ++ coarseX

theorem toNat_append_eq_add {m n : Nat} (x : BitVec m) (y : BitVec n) : (x ++ y).toNat = x.toNat * 2 ^ n + y.toNat := by
  rw [BitVec.toNat_append, ← Nat.shiftLeft_add_eq_or_of_lt y.isLt, Nat.shiftLeft_eq]

theorem toNat_scrollWord (fy : BitVec 3) (ny nx : BitVec 1) (cy cx : BitVec 5) :
    (scrollWord fy ny nx cy cx).toNat =
      fy.toNat * 4096 + ny.toNat * 2048 + nx.toNat * 1024 + cy.toNat * 32 + cx.toNat := by
  simp only [scrollWord, toNat_append_eq_add]
  omega

/-- Every scroll word is made of its fields. -/
theorem exists_scrollWord (v : BitVec 15) : ∃ fy ny nx cy cx, v = scrollWord fy ny nx cy cx := by
  refine ⟨BitVec.ofNat 3 (v.toNat / 4096), BitVec.ofNat 1 (v.toNat / 2048), BitVec.ofNat 1 (v.toNat / 1024),
    BitVec.ofNat 5 (v.toNat / 32), BitVec.ofNat 5 v.toNat, BitVec.eq_of_toNat_eq ?_⟩
  have hv := v.isLt
  simp only [toNat_scrollWord, BitVec.toNat_ofNat]
  omega

theorem scrollWord_inj {fy fy' : BitVec 3} {ny ny' nx nx' : BitVec 1} {cy cy' cx cx' : BitVec 5} :
    scrollWord fy ny nx cy cx = scrollWord fy' ny' nx' cy' cx' ↔
      fy = fy' ∧ ny = ny' ∧ nx = nx' ∧ cy = cy' ∧ cx = cx' := by
  simp only [← BitVec.toNat_inj, toNat_scrollWord]
  omega

theorem scrollWord_and (fy fy' : BitVec 3) (ny ny' nx nx' : BitVec 1) (cy cy' cx cx' : BitVec 5) :
    scrollWord fy ny nx cy cx &&& scrollWord fy' ny' nx' cy' cx' =
      scrollWord (fy &&& fy') (ny &&& ny') (nx &&& nx') (cy &&& cy') (cx &&& cx') := by
  show (fy ++ ny ++ nx ++ cy ++ cx : BitVec (3 + 1 + 1 + 5 + 5)) &&& (fy' ++ ny' ++ nx' ++ cy' ++ cx') = _
  simp only [BitVec.and_append]
  rfl

theorem scrollWord_xor (fy fy' : BitVec 3) (ny ny' nx nx' : BitVec 1) (cy cy' cx cx' : BitVec 5) :
    scrollWord fy ny nx cy cx ^^^ scrollWord fy' ny' nx' cy' cx' =
      scrollWord (fy ^^^ fy') (ny ^^^ ny') (nx ^^^ nx') (cy ^^^ cy') (cx ^^^ cx') := by
  show (fy ++ ny ++ nx ++ cy ++ cx : BitVec (3 + 1 + 1 + 5 + 5)) ^^^ (fy' ++ ny' ++ nx' ++ cy' ++ cx') = _
  simp only [BitVec.xor_append]
  rfl

theorem scrollWord_or (fy fy' : BitVec 3) (ny ny' nx nx' : BitVec 1) (cy cy' cx cx' : BitVec 5) :
    scrollWord fy ny nx cy cx ||| scrollWord fy' ny' nx' cy' cx' =
      scrollWord (fy ||| fy') (ny ||| ny') (nx ||| nx') (cy ||| cy') (cx ||| cx') := by
  show (fy ++ ny ++ nx ++ cy ++ cx : BitVec (3 + 1 + 1 + 5 + 5)) ||| (fy' ++ ny' ++ nx' ++ cy' ++ cx') = _
  simp only [BitVec.or_append]
  rfl

/-- Masking a field with all ones keeps it, and with none clears it. -/
theorem and_fieldMask :
    (∀ x : BitVec 3, x &&& 7#3 = x ∧ x &&& 0#3 = 0#3) ∧ (∀ x : BitVec 1, x &&& 1#1 = x ∧ x &&& 0#1 = 0#1) ∧
    (∀ x : BitVec 5, x &&& 31#5 = x ∧ x &&& 0#5 = 0#5) := by decide

/-- Exclusive-or of a field with 0 keeps it; of a nametable bit with 1 inverts it. -/
theorem xor_field :
    (∀ x : BitVec 3, x ^^^ 0#3 = x) ∧ (∀ x : BitVec 1, x ^^^ 0#1 = x ∧ x ^^^ 1#1 = ~~~x) ∧
    (∀ x : BitVec 5, x ^^^ 0#5 = x) := by decide

/-- Or of a field with 0 keeps it. -/
theorem or_field :
    (∀ x : BitVec 3, x ||| 0#3 = x) ∧ (∀ x : BitVec 1, x ||| 0#1 = x) ∧
    (∀ x : BitVec 5, x ||| 0#5 = x ∧ 0#5 ||| x = x) := by decide

/-- A field below its last value steps without a carry. -/
theorem toNat_add_one_of_ne_allOnes {w : Nat} {x : BitVec (w + 1)} (h : x ≠ BitVec.allOnes (w + 1)) :
    (x + 1#(w + 1)).toNat = x.toNat + 1 := by
  have hne : x.toNat ≠ 2 ^ (w + 1) - 1 := fun e => h (BitVec.eq_of_toNat_eq (by rw [e, BitVec.toNat_allOnes]))
  have hx := x.isLt
  have hone : (1#(w + 1)).toNat = 1 := by simp
  rw [BitVec.toNat_add_of_lt (by rw [hone]; omega), hone]

/-- `IncX` on the fields (R1111). -/
theorem incX_scrollWord (fy : BitVec 3) (ny nx : BitVec 1) (cy cx : BitVec 5) :
    incX (scrollWord fy ny nx cy cx) =
      if cx = 31#5 then scrollWord fy ny (~~~nx) cy 0#5 else scrollWord fy ny nx cy (cx + 1#5) := by
  have hmask : (0x001F : BitVec 15) = scrollWord 0#3 0#1 0#1 0#5 31#5 := by decide
  have hkeep : (0x7FE0 : BitVec 15) = scrollWord 7#3 1#1 1#1 31#5 0#5 := by decide
  have hflip : (0x0400 : BitVec 15) = scrollWord 0#3 0#1 1#1 0#5 0#5 := by decide
  rw [incX, hmask, hkeep, hflip]
  simp only [scrollWord_and, scrollWord_xor, scrollWord_inj, and_fieldMask, xor_field, true_and]
  split
  · rfl
  · next hcx =>
    have hstep : (cx + 1#5).toNat = cx.toNat + 1 := toNat_add_one_of_ne_allOnes hcx
    have hlt := (scrollWord fy ny nx cy (cx + 1#5)).isLt
    apply BitVec.eq_of_toNat_eq
    show (scrollWord fy ny nx cy cx + 1#15).toNat = _
    rw [toNat_scrollWord, hstep] at hlt
    rw [BitVec.toNat_add, toNat_scrollWord, toNat_scrollWord, hstep, BitVec.toNat_ofNat]
    omega

/-- The coarse Y that `IncY` computes with (R1112). -/
theorem coarseY_scrollWord (fy : BitVec 3) (ny nx : BitVec 1) (cy cx : BitVec 5) :
    (scrollWord fy ny nx cy cx >>> 5) &&& 0x001F = scrollWord 0#3 0#1 0#1 0#5 cy := by
  have hcy := cy.isLt
  have hcx := cx.isLt
  apply BitVec.eq_of_toNat_eq
  rw [BitVec.toNat_and, BitVec.toNat_ushiftRight, Nat.shiftRight_eq_div_pow, toNat_scrollWord, toNat_scrollWord]
  refine (Nat.and_two_pow_sub_one_eq_mod _ 5).trans ?_
  simp only [BitVec.toNat_ofNat]
  omega

/-- The next coarse Y at its place in the word (R1112). -/
theorem coarseY_succ_shifted {cy : BitVec 5} (h : cy ≠ 31#5) :
    (scrollWord 0#3 0#1 0#1 0#5 cy + 1#15) <<< 5 = scrollWord 0#3 0#1 0#1 (cy + 1#5) 0#5 := by
  have hstep : (cy + 1#5).toNat = cy.toNat + 1 := toNat_add_one_of_ne_allOnes h
  have hlt := (cy + 1#5).isLt
  apply BitVec.eq_of_toNat_eq
  rw [BitVec.toNat_shiftLeft, Nat.shiftLeft_eq, BitVec.toNat_add, toNat_scrollWord, toNat_scrollWord, hstep]
  simp only [BitVec.toNat_ofNat]
  omega

/-- `IncY` on the fields (R1112). -/
theorem incY_scrollWord (fy : BitVec 3) (ny nx : BitVec 1) (cy cx : BitVec 5) :
    incY (scrollWord fy ny nx cy cx) =
      if fy ≠ 7#3 then scrollWord (fy + 1#3) ny nx cy cx
      else if cy = 29#5 then scrollWord 0#3 (~~~ny) nx 0#5 cx
      else if cy = 31#5 then scrollWord 0#3 ny nx 0#5 cx
      else scrollWord 0#3 ny nx (cy + 1#5) cx := by
  have hmask : (0x7000 : BitVec 15) = scrollWord 7#3 0#1 0#1 0#5 0#5 := by decide
  have hkeep : (0x0C1F : BitVec 15) = scrollWord 0#3 1#1 1#1 0#5 31#5 := by decide
  have hflip : (0x0800 : BitVec 15) = scrollWord 0#3 1#1 0#1 0#5 0#5 := by decide
  have h29 : (29 : BitVec 15) = scrollWord 0#3 0#1 0#1 0#5 29#5 := by decide
  have h31 : (31 : BitVec 15) = scrollWord 0#3 0#1 0#1 0#5 31#5 := by decide
  rw [incY]
  simp only [coarseY_scrollWord]
  rw [hmask, hkeep, hflip, h29, h31]
  simp only [scrollWord_and, scrollWord_xor, scrollWord_inj, and_fieldMask, xor_field, true_and, and_true,
    ne_eq]
  split
  · next hfy =>
    have hstep : (fy + 1#3).toNat = fy.toNat + 1 := toNat_add_one_of_ne_allOnes hfy
    have hlt := (scrollWord (fy + 1#3) ny nx cy cx).isLt
    apply BitVec.eq_of_toNat_eq
    show (scrollWord fy ny nx cy cx + 4096#15).toNat = _
    rw [toNat_scrollWord, hstep] at hlt
    rw [BitVec.toNat_add, toNat_scrollWord, toNat_scrollWord, hstep, BitVec.toNat_ofNat]
    omega
  · split
    · rfl
    · split
      · rfl
      · next hcy =>
        have hrest : (scrollWord 0#3 0#1 0#1 0#5 cy + 1) <<< 5 = _ := coarseY_succ_shifted hcy
        simp only [hrest, scrollWord_or, or_field]

/-- An inverted nametable bit as a number. -/
theorem toNat_not_bit : ∀ b : BitVec 1, (~~~b).toNat = 1 - b.toNat := by decide

/-- `IncX` as a number (R1111). -/
theorem toNat_incX (v : BitVec 15) :
    (incX v).toNat =
      if v.toNat % 32 = 31 then
        (if v.toNat / 1024 % 2 = 0 then v.toNat - 31 + 1024 else v.toNat - 31 - 1024)
      else v.toNat + 1 := by
  obtain ⟨fy, ny, nx, cy, cx, rfl⟩ := exists_scrollWord v
  have hny := ny.isLt
  have hnx := nx.isLt
  have hcy := cy.isLt
  have hcx := cx.isLt
  rw [incX_scrollWord, toNat_scrollWord]
  by_cases h : cx = 31#5
  · subst h
    rw [if_pos rfl, if_pos (by rw [BitVec.toNat_ofNat]; omega), toNat_scrollWord, toNat_not_bit]
    simp only [BitVec.toNat_ofNat]
    split <;> omega
  · have hne : cx.toNat ≠ 31 := fun e => h (BitVec.eq_of_toNat_eq e)
    rw [if_neg h, if_neg (by omega), toNat_scrollWord, toNat_add_one_of_ne_allOnes h]
    omega

/-- `IncY` as a number (R1112). -/
theorem toNat_incY (v : BitVec 15) :
    (incY v).toNat =
      if v.toNat / 4096 < 7 then v.toNat + 4096
      else if v.toNat / 32 % 32 = 29 then
        (if v.toNat / 2048 % 2 = 0 then v.toNat - 7 * 4096 - 29 * 32 + 2048 else v.toNat - 7 * 4096 - 29 * 32 - 2048)
      else if v.toNat / 32 % 32 = 31 then v.toNat - 7 * 4096 - 31 * 32
      else v.toNat - 7 * 4096 + 32 := by
  obtain ⟨fy, ny, nx, cy, cx, rfl⟩ := exists_scrollWord v
  have hfy := fy.isLt
  have hny := ny.isLt
  have hnx := nx.isLt
  have hcy := cy.isLt
  have hcx := cx.isLt
  rw [incY_scrollWord, toNat_scrollWord]
  by_cases h7 : fy = 7#3
  · have hfy7 : fy.toNat = 7 := congrArg BitVec.toNat h7
    rw [if_neg (not_not.mpr h7)]
    by_cases h29 : cy = 29#5
    · have hcy29 : cy.toNat = 29 := congrArg BitVec.toNat h29
      rw [if_pos h29, toNat_scrollWord, toNat_not_bit, if_neg (by omega), if_pos (by omega)]
      simp only [BitVec.toNat_ofNat]
      split <;> omega
    · have hcy29 : cy.toNat ≠ 29 := fun e => h29 (BitVec.eq_of_toNat_eq e)
      rw [if_neg h29]
      by_cases h31 : cy = 31#5
      · have hcy31 : cy.toNat = 31 := congrArg BitVec.toNat h31
        rw [if_pos h31, toNat_scrollWord, if_neg (by omega), if_neg (by omega), if_pos (by omega)]
        simp only [BitVec.toNat_ofNat]
        omega
      · have hcy31 : cy.toNat ≠ 31 := fun e => h31 (BitVec.eq_of_toNat_eq e)
        rw [if_neg h31, toNat_scrollWord, toNat_add_one_of_ne_allOnes h31, if_neg (by omega), if_neg (by omega),
          if_neg (by omega)]
        simp only [BitVec.toNat_ofNat]
        omega
  · have hfy7 : fy.toNat ≠ 7 := fun e => h7 (BitVec.eq_of_toNat_eq e)
    rw [if_pos h7, toNat_scrollWord, toNat_add_one_of_ne_allOnes h7, if_pos (by omega)]
    omega

/-- The two copies bit by bit (R1113, R1114). -/
theorem getLsbD_copies (v t : BitVec 15) {k : Nat} (hk : k < 15) :
    (copyHorizontal v t).getLsbD k = (if k < 5 ∨ k = 10 then t.getLsbD k else v.getLsbD k) ∧
    (copyVertical v t).getLsbD k = (if k < 5 ∨ k = 10 then v.getLsbD k else t.getLsbD k) := by
  have hx : ∀ k < 15, (0x041F : BitVec 15).getLsbD k = decide (k < 5 ∨ k = 10) := by decide
  have hy : ∀ k < 15, (0x7BE0 : BitVec 15).getLsbD k = !decide (k < 5 ∨ k = 10) := by decide
  simp only [copyHorizontal, copyVertical, BitVec.getLsbD_or, BitVec.getLsbD_and, hx k hk, hy k hk]
  by_cases h : k < 5 ∨ k = 10
  · simp [h]
  · simp [h]

theorem Ppu.renderLine_iff (p : Ppu) : p.renderLine = true ↔ -1 ≤ p.scanline ∧ p.scanline ≤ 239 := by
  simp [Ppu.renderLine]

/-- What the background stage leaves in v: `IncX` at every eighth fetch dot (R1121). -/
theorem backgroundStage_v (s : State) :
    s.backgroundStage.ppu.v =
      if ((1 ≤ s.ppu.dot ∧ s.ppu.dot ≤ 256) ∨ (321 ≤ s.ppu.dot ∧ s.ppu.dot ≤ 336)) ∧ s.ppu.dot % 8 = 0 then
        incX s.ppu.v
      else s.ppu.v := by
  rw [backgroundStage_cases s]
  split
  · rw [if_neg (by omega)]
  · split
    · rw [if_neg (by omega)]
    · split
      · rw [if_neg (by omega)]
      · split
        · rw [if_neg (by omega)]
        · split
          · rfl
          · split
            · exact congrArg Ppu.v (afterPpuRead_ppu _ _)
            · rfl

/-- The scroll stage by its dots (R1112-R1114). -/
theorem Ppu.scrollStage_v (p : Ppu) :
    p.scrollStage.v =
      if p.dot = 256 then incY p.v
      else if p.dot = 257 then copyHorizontal p.v p.t
      else if p.scanline = -1 ∧ 280 ≤ p.dot ∧ p.dot ≤ 304 then copyVertical p.v p.t
      else p.v := by
  rw [Ppu.scrollStage, apply_ite Ppu.v, apply_ite Ppu.v, apply_ite Ppu.v]

/-- v after a rendering dot: `IncX`, then the scroll stage (R1160). -/
theorem ppuStep_v_of_rendering {s : State} (h : s.ppu.renderingEnabled = true) (hl : s.ppu.renderLine = true) :
    let d := s.ppu.dot
    let v1 := if ((1 ≤ d ∧ d ≤ 256) ∨ (321 ≤ d ∧ d ≤ 336)) ∧ d % 8 = 0 then incX s.ppu.v else s.ppu.v
    s.ppuStep.ppu.v =
      if d = 256 then incY v1
      else if d = 257 then copyHorizontal v1 s.ppu.t
      else if s.ppu.scanline = -1 ∧ 280 ≤ d ∧ d ≤ 304 then copyVertical v1 s.ppu.t
      else v1 := by
  intro d v1
  obtain ⟨-, -, hv, -⟩ := ppuStep_fields_of_rendering h hl
  have hpos : s.flagEvents.shifted.ppu.v = s.ppu.v ∧ s.flagEvents.shifted.ppu.t = s.ppu.t ∧
      s.flagEvents.shifted.ppu.scanline = s.ppu.scanline ∧ s.flagEvents.shifted.ppu.dot = s.ppu.dot := by
    show s.flagEvents.ppu.shiftStage.v = _ ∧ s.flagEvents.ppu.shiftStage.t = _ ∧
      s.flagEvents.ppu.shiftStage.scanline = _ ∧ s.flagEvents.ppu.shiftStage.dot = _
    rw [Ppu.shiftStage_eq, flagEvents_ppu]
    exact ⟨rfl, rfl, rfl, rfl⟩
  obtain ⟨hv0, ht, hline, hdot⟩ := hpos
  have hkeep : s.flagEvents.shifted.backgroundStage.ppu.t = s.ppu.t ∧
      s.flagEvents.shifted.backgroundStage.ppu.scanline = s.ppu.scanline ∧
      s.flagEvents.shifted.backgroundStage.ppu.dot = s.ppu.dot := by
    rw [backgroundStage_ppu]
    exact ⟨ht, hline, hdot⟩
  obtain ⟨hkt, hkline, hkdot⟩ := hkeep
  rw [hv, Ppu.scrollStage_v, backgroundStage_v, hkt, hkline, hkdot, hv0, hdot]

/-- Settles O48: the updates as numbers by the fields of the word, and v at each dot by the two stages that write it. -/
theorem scrollUpdates : Obligations.ScrollUpdates := by
  refine ⟨fun v t => ⟨toNat_incX v, toNat_incY v, fun k hk => getLsbD_copies v t hk⟩, ?_⟩
  intro s hr hl1 hl2 v
  rw [ppuStep_v_of_rendering hr (s.ppu.renderLine_iff.mpr ⟨hl1, hl2⟩)]
  refine ⟨fun hd => ?_, fun hd => ?_, fun hl hd1 hd2 => ?_, fun hd1 hd2 => ?_, fun hd1 hd2 hn => ?_⟩
  · rw [if_pos hd, if_pos (by omega)]
  · rw [if_neg (by omega), if_pos hd, if_neg (by omega)]
  · rw [if_neg (by omega), if_neg (by omega), if_pos ⟨hl, hd1, hd2⟩, if_neg (by omega)]
  · rw [if_neg (by omega), if_neg (by omega), if_neg (by omega)]
    split
    · rw [if_pos (by omega)]
    · rw [if_neg (by omega)]
  · rw [if_neg (by omega), if_neg (by omega), if_neg hn]
    split
    · rw [if_pos (by omega)]
    · rw [if_neg (by omega)]

end Sys2Proof.Machine

namespace Sys2Proof.Machine

/-! ## Sprite evaluation -/

/-- The evaluation of an entry that is in range (R1141). -/
def Evaluation.take (oam : Memory) (e : Evaluation) (i : Nat) : Evaluation :=
  if e.count < 8 then
    { e with count := e.count + 1, secOam := copyEntry oam e.secOam i e.count, hasZero := e.hasZero || i == 0 }
  else { e with overflow := true }

/-- The OAM entries in range of the line, in index order (R1141). -/
def Ppu.found (p : Ppu) : List Nat :=
  (List.range 64).filter (fun i => spriteInRange p.scanline p.spriteHeight (p.oam.read (4 * i)))

/-- Evaluation takes the entries in range, and no other has an effect. -/
theorem Ppu.evaluation_eq (p : Ppu) :
    p.evaluation = p.found.foldl (Evaluation.take p.oam) ⟨0, p.secOam, false, p.overflow⟩ := by
  rw [Ppu.found, List.foldl_filter]
  rfl

/-- A copied entry is four bytes, in their order. -/
theorem read_copyEntry (oam m : Memory) (i n j : Nat) :
    (copyEntry oam m i n).read j = if j / 4 = n then oam.read (4 * i + j % 4) else m.read j := by
  simp only [copyEntry, Memory.read_write]
  by_cases h : j / 4 = n
  · have hb : j = 4 * n ∨ j = 4 * n + 1 ∨ j = 4 * n + 2 ∨ j = 4 * n + 3 := by omega
    rcases hb with rfl | rfl | rfl | rfl
    · simp
    · simp [show (4 * n + 1) / 4 = n by omega]
    · simp [show (4 * n + 2) / 4 = n by omega]
    · simp [show (4 * n + 3) / 4 = n by omega]
  · rw [if_neg (by omega), if_neg (by omega), if_neg (by omega), if_neg (by omega), if_neg h]

/-- How many entries a list of them fills, and that a ninth overflows. -/
theorem foldl_take_count (oam : Memory) (l : List Nat) {e : Evaluation} (h : e.count ≤ 8) :
    (l.foldl (Evaluation.take oam) e).count = min 8 (e.count + l.length) ∧
    (l.foldl (Evaluation.take oam) e).overflow = (e.overflow || decide (8 < e.count + l.length)) := by
  induction l generalizing e with
  | nil => simp; omega
  | cons i l ih =>
    rw [List.foldl_cons, List.length_cons]
    by_cases hc : e.count < 8
    · have ht : (e.take oam i).count = e.count + 1 ∧ (e.take oam i).overflow = e.overflow := by
        rw [Evaluation.take, if_pos hc]
        exact ⟨rfl, rfl⟩
      obtain ⟨hcount, hover⟩ := ih (e := e.take oam i) (by omega)
      rw [hcount, hover, ht.1, ht.2, Nat.add_right_comm, Nat.add_assoc]
      exact ⟨rfl, rfl⟩
    · have ht : (e.take oam i).count = e.count ∧ (e.take oam i).overflow = true := by
        rw [Evaluation.take, if_neg hc]
        exact ⟨rfl, rfl⟩
      obtain ⟨hcount, hover⟩ := ih (e := e.take oam i) (by omega)
      rw [hcount, hover, ht.1, ht.2]
      refine ⟨by omega, ?_⟩
      rw [Bool.true_or, decide_eq_true (by omega), Bool.or_true]

/-- What a list of entries leaves in secondary OAM: the first ones that fit, one after another. -/
theorem foldl_take_read (oam : Memory) (l : List Nat) {e : Evaluation} (h : e.count ≤ 8) (j : Nat) :
    (l.foldl (Evaluation.take oam) e).secOam.read j =
      if 4 * e.count ≤ j ∧ j < 4 * min 8 (e.count + l.length) then
        oam.read (4 * l.getD (j / 4 - e.count) 0 + j % 4)
      else e.secOam.read j := by
  induction l generalizing e with
  | nil => rw [if_neg (by simp; omega)]; rfl
  | cons i l ih =>
    rw [List.foldl_cons, List.length_cons]
    by_cases hc : e.count < 8
    · have ht : e.take oam i =
          { e with
            count := e.count + 1
            secOam := copyEntry oam e.secOam i e.count
            hasZero := e.hasZero || i == 0 } := by
        rw [Evaluation.take, if_pos hc]
      rw [ih (by rw [ht]; exact hc), ht]
      dsimp only
      rw [read_copyEntry]
      rcases Nat.lt_trichotomy (j / 4) e.count with hlt | heq | hgt
      · rw [if_neg (by omega), if_neg (by omega), if_neg (by omega)]
      · rw [if_neg (by omega), if_pos heq, if_pos (by omega), heq, Nat.sub_self, List.getD_cons_zero]
      · rw [if_neg (c := j / 4 = e.count) (by omega), show j / 4 - e.count = j / 4 - (e.count + 1) + 1 by omega,
          List.getD_cons_succ]
        congr 1
        rw [eq_iff_iff]
        omega
    · have ht : e.take oam i = { e with overflow := true } := by
        rw [Evaluation.take, if_neg hc]
      rw [ih (by rw [ht]; exact h), ht]
      dsimp only
      rw [if_neg (by omega), if_neg (by omega)]

/-- Entries other than 0 leave the zero flag. -/
theorem foldl_take_hasZero (oam : Memory) {l : List Nat} (h : 0 ∉ l) (e : Evaluation) :
    (l.foldl (Evaluation.take oam) e).hasZero = e.hasZero := by
  induction l generalizing e with
  | nil => rfl
  | cons i l ih =>
    obtain ⟨hi, hl⟩ := not_or.mp (mt List.mem_cons.mpr h)
    rw [List.foldl_cons, ih hl, Evaluation.take]
    split
    · simp [Ne.symm hi]
    · rfl

/-- Entry 0 is the first to be looked at, so in range it is taken. -/
theorem Ppu.evaluation_hasZero (p : Ppu) :
    p.evaluation.hasZero = spriteInRange p.scanline p.spriteHeight (p.oam.read (4 * 0)) := by
  have hrest : 0 ∉ ((List.range 63).map Nat.succ).filter
      (fun i => spriteInRange p.scanline p.spriteHeight (p.oam.read (4 * i))) := by
    simp
  rw [Ppu.evaluation_eq, Ppu.found, List.range_succ_eq_map, List.filter_cons]
  split
  · next h =>
    rw [List.foldl_cons, foldl_take_hasZero _ hrest, h]
    rfl
  · next h =>
    rw [foldl_take_hasZero _ hrest, Bool.eq_false_of_not_eq_true h]

/-- How many entries the evaluation keeps, and when it overflows (R1141). -/
theorem Ppu.evaluation_count (p : Ppu) :
    p.evaluation.count = min 8 p.found.length ∧
    p.evaluation.overflow = (p.overflow || decide (8 < p.found.length)) := by
  have h := foldl_take_count p.oam p.found (e := ⟨0, p.secOam, false, p.overflow⟩) (Nat.zero_le _)
  rwa [← Ppu.evaluation_eq, Nat.zero_add] at h

/-- What the evaluation leaves in secondary OAM (R1141). -/
theorem Ppu.evaluation_read (p : Ppu) (j : Nat) :
    p.evaluation.secOam.read j =
      if j < 4 * min 8 p.found.length then p.oam.read (4 * p.found.getD (j / 4) 0 + j % 4) else p.secOam.read j := by
  have h := foldl_take_read p.oam p.found (e := ⟨0, p.secOam, false, p.overflow⟩) (Nat.zero_le _) j
  simpa [← Ppu.evaluation_eq] using h

/-- The range test as the two comparisons that it stands for (R1141). -/
theorem Ppu.spriteInRange_eq (p : Ppu) (y : Byte) :
    spriteInRange p.scanline p.spriteHeight y =
      (decide (0 ≤ p.scanline - (y.toNat : Int)) &&
        decide (p.scanline - (y.toNat : Int) < if p.ctrl.getLsbD 5 then 16 else 8)) := by
  rw [spriteInRange, Ppu.spriteHeight]
  split <;> rfl

theorem Ppu.evaluated_inj {p q : Ppu} :
    p.evaluated = q.evaluated ↔
      p.secOam = q.secOam ∧ p.secCount = q.secCount ∧ p.secHasZero = q.secHasZero ∧ p.overflow = q.overflow ∧
      p.sprCount = q.sprCount ∧ p.sprZeroInLine = q.sprZeroInLine := by
  simp only [Ppu.evaluated, Prod.mk.injEq]

theorem Ppu.visibleLine_iff (p : Ppu) : p.visibleLine = true ↔ 0 ≤ p.scanline ∧ p.scanline ≤ 239 := by
  simp [Ppu.visibleLine]

/-- The clear at dot 64 writes secondary OAM alone (R1140). -/
theorem Ppu.evaluateStage_of_clear {p : Ppu} (hl : p.visibleLine = true) (hd : p.dot = 64) :
    p.evaluateStage = p.clearSecOam := by
  rw [Ppu.evaluateStage, if_pos (by simp [hl, hd])]

/-- The evaluation at dot 256 (R1141). -/
theorem Ppu.evaluateStage_of_evaluation {p : Ppu} (hl : p.visibleLine = true) (hd : p.dot = 256) :
    p.evaluateStage = p.evaluate := by
  rw [Ppu.evaluateStage, if_neg (by simp [hd]), if_pos (by simp [hl, hd])]

/-- At every other dot the stage leaves what the evaluation found, and can only take the counts over (R1142). -/
theorem Ppu.evaluateStage_of_other {p : Ppu} (h64 : ¬ (p.visibleLine = true ∧ p.dot = 64))
    (h256 : ¬ (p.visibleLine = true ∧ p.dot = 256)) :
    p.evaluateStage = if p.dot = 257 then p.startSprites else p := by
  rw [Ppu.evaluateStage, if_neg (by simpa using h64), if_neg (by simpa using h256)]

/-- Only the clear of (-1, 1) is a flag event that reaches the evaluation's results (R1110). -/
theorem flagEvents_evaluated {s : State} (h : ¬ (s.ppu.scanline = -1 ∧ s.ppu.dot = 1)) :
    s.flagEvents.ppu.evaluated = s.ppu.evaluated := by
  rw [State.flagEvents, if_neg h]
  split
  · rw [vblankStart_ppu]
    rfl
  · rfl

/-- Before dot 257 there is no sprite fetch (R1143). -/
theorem spriteStage_of_le {s : State} (h : s.ppu.dot ≤ 256) : s.spriteStage = s := by
  rw [State.spriteStage, if_neg (by rw [isSpriteDot_iff]; omega)]

/-- Up to dot 256 a dot leaves the slots of the line. -/
theorem renderStages_slots_of_le {s : State} (h : s.ppu.dot ≤ 256) : s.renderStages.ppu.slots = s.ppu.slots := by
  obtain ⟨-, -, -, -, hslots, -, -, -, hdot⟩ := beforeSprites_ppu s
  rw [renderStages_def, spriteStage_of_le (by omega), hslots]

/-- A dot of a visible line with rendering enabled, leaves the evaluation stage's results. -/
theorem ppuStep_evaluated_of_visible {s : State} (h : s.ppu.renderingEnabled = true)
    (hl : 0 ≤ s.ppu.scanline ∧ s.ppu.scanline ≤ 239) :
    s.ppuStep.ppu.evaluated = s.ppu.evaluateStage.evaluated := by
  have hf : s.flagEvents = s := flagEvents_of_ne (by omega) (by omega)
  rw [ppuStep_evaluated_of_rendering h (s.ppu.renderLine_iff.mpr ⟨by omega, hl.2⟩), hf]

/-- Up to dot 256 a dot of a visible line with rendering enabled, leaves the slots of the line. -/
theorem ppuStep_slots_of_visible {s : State} (h : s.ppu.renderingEnabled = true)
    (hl : 0 ≤ s.ppu.scanline ∧ s.ppu.scanline ≤ 239) (hd : s.ppu.dot ≤ 256) :
    s.ppuStep.ppu.slots = s.ppu.slots := by
  have hf : s.flagEvents = s := flagEvents_of_ne (by omega) (by omega)
  obtain ⟨-, -, -, -, hslots, -⟩ := ppuStep_fields_of_rendering h (s.ppu.renderLine_iff.mpr ⟨by omega, hl.2⟩)
  rw [hf] at hslots
  exact hslots.trans (renderStages_slots_of_le hd)

/-- The fields that no dot writes, one by one. -/
theorem ppuStep_kept (s : State) :
    s.ppuStep.ppu.ctrl = s.ppu.ctrl ∧ s.ppuStep.ppu.mask = s.ppu.mask ∧ s.ppuStep.ppu.oamAddr = s.ppu.oamAddr ∧
    s.ppuStep.ppu.t = s.ppu.t ∧ s.ppuStep.ppu.fineX = s.ppu.fineX ∧ s.ppuStep.ppu.w = s.ppu.w ∧
    s.ppuStep.ppu.readBuffer = s.ppu.readBuffer ∧ s.ppuStep.ppu.oam = s.ppu.oam ∧
    s.ppuStep.ppu.palette = s.ppu.palette ∧ s.ppuStep.ppu.nmiCallbackRegistered = s.ppu.nmiCallbackRegistered := by
  have h := ppuStep_fixed s
  simpa only [Ppu.fixed, Prod.mk.injEq] using h

/-- The clear byte by byte (R1140). -/
theorem Ppu.read_clearSecOam (p : Ppu) (j : Nat) :
    p.clearSecOam.secOam.read j = if j < 32 then 0xFF else p.secOam.read j := by
  rw [Ppu.clearSecOam, Memory.read_fill]
  simp

theorem Ppu.clearSecOam_results (p : Ppu) :
    p.clearSecOam.secCount = p.secCount ∧ p.clearSecOam.secHasZero = p.secHasZero ∧
    p.clearSecOam.overflow = p.overflow := by
  rw [Ppu.clearSecOam]
  generalize p.secOam.fill 0 32 0xFF = m
  exact ⟨rfl, rfl, rfl⟩

/-- What a dot leaves when it neither clears secondary OAM nor evaluates. -/
theorem ppuStep_evaluated_of_neither {s : State}
    (h64 : ¬ ((s.ppu.renderingEnabled = true ∧ 0 ≤ s.ppu.scanline ∧ s.ppu.scanline ≤ 239) ∧ s.ppu.dot = 64))
    (h256 : ¬ ((s.ppu.renderingEnabled = true ∧ 0 ≤ s.ppu.scanline ∧ s.ppu.scanline ≤ 239) ∧ s.ppu.dot = 256)) :
    s.ppuStep.ppu.secOam = s.flagEvents.ppu.secOam ∧ s.ppuStep.ppu.secCount = s.flagEvents.ppu.secCount ∧
    s.ppuStep.ppu.secHasZero = s.flagEvents.ppu.secHasZero ∧ s.ppuStep.ppu.overflow = s.flagEvents.ppu.overflow := by
  by_cases hr : s.ppu.renderingEnabled = true ∧ s.ppu.renderLine = true
  · obtain ⟨-, -, -, -, -, -, -, -, -, hline, hdot⟩ := flagEvents_fields s
    have hother := s.flagEvents.ppu.evaluateStage_of_other
      (by rw [Ppu.visibleLine_iff, hline, hdot]; exact fun h => h64 ⟨⟨hr.1, h.1⟩, h.2⟩)
      (by rw [Ppu.visibleLine_iff, hline, hdot]; exact fun h => h256 ⟨⟨hr.1, h.1⟩, h.2⟩)
    have he := ppuStep_evaluated_of_rendering hr.1 hr.2
    rw [hother] at he
    obtain ⟨hsec, hcount, hzero, hover, -⟩ := Ppu.evaluated_inj.mp he
    rw [hsec, hcount, hzero, hover]
    split <;> exact ⟨rfl, rfl, rfl, rfl⟩
  · have he := ppuStep_evaluated_of_idle (s := s) (by rwa [not_and_or, Bool.not_eq_true, Bool.not_eq_true] at hr)
    obtain ⟨hsec, hcount, hzero, hover, -⟩ := Ppu.evaluated_inj.mp he
    exact ⟨hsec, hcount, hzero, hover⟩

/-- Settles O50: the two dots that write secondary OAM, and the evaluation as a fold over the entries in range. -/
theorem spriteEvaluation : Obligations.SpriteEvaluation := by
  intro s h inRange found q renders clears evaluates
  have hin : inRange = fun i => spriteInRange s.ppu.scanline s.ppu.spriteHeight (s.ppu.oam.read (4 * i)) :=
    funext fun i => (s.ppu.spriteInRange_eq _).symm
  have hfound : found = s.ppu.found := congrArg (fun f => (List.range 64).filter f) hin
  refine ⟨fun ⟨hr, hd⟩ j => ?_, fun ⟨hr, hd⟩ => ?_, fun he hc => ?_, fun he h1 => ?_⟩
  · have hq := ppuStep_evaluated_of_visible hr.1 hr.2
    rw [Ppu.evaluateStage_of_clear (s.ppu.visibleLine_iff.mpr hr.2) hd] at hq
    obtain ⟨hsec, -⟩ := Ppu.evaluated_inj.mp hq
    rw [hsec]
    exact s.ppu.read_clearSecOam j
  · have hq := ppuStep_evaluated_of_visible hr.1 hr.2
    rw [Ppu.evaluateStage_of_evaluation (s.ppu.visibleLine_iff.mpr hr.2) hd] at hq
    obtain ⟨hsec, hcount, hzero, hover, hspr, -⟩ := Ppu.evaluated_inj.mp hq
    obtain ⟨hn, ho⟩ := s.ppu.evaluation_count
    obtain ⟨-, -, -, -, -, -, -, hoam, -⟩ := ppuStep_kept s
    have hslots : q.slots = s.ppu.slots := ppuStep_slots_of_visible hr.1 hr.2 (by omega)
    have hread : ∀ j, q.secOam.read j = _ := fun j =>
      (congrArg (Memory.read · j) hsec).trans (s.ppu.evaluation_read j)
    have hcount' : q.secCount = min 8 found.length := by
      rw [hfound]
      exact hcount.trans hn
    have hcf : (min 8 s.ppu.found.length) = q.secCount := by rw [hcount', hfound]
    refine ⟨hcount', ?_, ?_, fun n b hlt hb => ?_, fun j hj => ?_, hspr, hoam, hslots⟩
    · rw [hin]
      exact hzero.trans s.ppu.evaluation_hasZero
    · rw [hfound]
      exact hover.trans ho
    · rw [hread, hcf, if_pos (by omega), hfound, show (4 * n + b) / 4 = n by omega, show (4 * n + b) % 4 = b by omega]
    · rw [hread, hcf, if_neg (by omega)]
  · obtain ⟨hsec, -⟩ := ppuStep_evaluated_of_neither hc he
    obtain ⟨-, -, -, -, -, -, -, -, hfsec, -⟩ := flagEvents_fields s
    exact hsec.trans hfsec
  · obtain ⟨-, hfcount, hfzero, hfover, -⟩ := Ppu.evaluated_inj.mp (flagEvents_evaluated h1)
    by_cases hc : clears
    · have hq := ppuStep_evaluated_of_visible hc.1.1 hc.1.2
      rw [Ppu.evaluateStage_of_clear (s.ppu.visibleLine_iff.mpr hc.1.2) hc.2] at hq
      obtain ⟨-, hcount, hzero, hover, -⟩ := Ppu.evaluated_inj.mp hq
      obtain ⟨kcount, kzero, kover⟩ := s.ppu.clearSecOam_results
      exact ⟨hcount.trans kcount, hzero.trans kzero, hover.trans kover⟩
    · obtain ⟨-, hcount, hzero, hover⟩ := ppuStep_evaluated_of_neither hc he
      exact ⟨hcount.trans hfcount, hzero.trans hfzero, hover.trans hfover⟩

end Sys2Proof.Machine

namespace Sys2Proof.Machine

/-! ## Fetch addresses as numbers -/

/-- `attributeAddr` from its fields: the nametable, then row and column of the 32-pixel block (R1123). -/
theorem attributeAddr_eq_append (p : Ppu) :
    p.attributeAddr =
      (0x2#2 ++ p.v.extractLsb' 10 2 ++ 0xF#4 ++ p.v.extractLsb' 7 3 ++ p.v.extractLsb' 2 3 : BitVec 14) := by
  have hbase : ∀ i < 14, (0x23C0#14).getLsbD i = decide (i = 13 ∨ (6 ≤ i ∧ i < 10)) := by decide
  have hnt : ∀ i < 14, (0x0C00#15).getLsbD i = decide (10 ≤ i ∧ i < 12) := by decide
  have hrow : ∀ i < 14, (0x0038#15).getLsbD i = decide (3 ≤ i ∧ i < 6) := by decide
  have hcol : ∀ i < 14, (0x0007#15).getLsbD i = decide (i < 3) := by decide
  apply BitVec.eq_of_getLsbD_eq
  intro i hi
  simp only [Ppu.attributeAddr, BitVec.getLsbD_or, BitVec.getLsbD_setWidth, BitVec.getLsbD_and,
    BitVec.getLsbD_ushiftRight, BitVec.getLsbD_append, BitVec.getLsbD_extractLsb', BitVec.natCast_eq_ofNat,
    BitVec.ofNat_eq_ofNat, hbase i hi, hnt i hi, hrow i hi, hcol i hi]
  have hfields : i < 3 ∨ (3 ≤ i ∧ i < 6) ∨ (6 ≤ i ∧ i < 10) ∨ (10 ≤ i ∧ i < 12) ∨ i = 12 ∨ i = 13 := by omega
  rcases hfields with h | h | h | h | h | h
  · grind
  · grind
  · have hones : (0xF#4).getLsbD (i - 3 - 3) = true := by
      have hall : ∀ k < 4, (0xF#4).getLsbD k = true := by decide
      exact hall _ (by omega)
    grind
  · grind
  · subst h; simp
  · subst h; simp

/-- `attributeAddr` as a number (R1123). -/
theorem toNat_attributeAddr (p : Ppu) :
    p.attributeAddr.toNat =
      0x23C0 + p.v.toNat / 1024 % 4 * 1024 + p.v.toNat / 128 % 8 * 8 + p.v.toNat / 4 % 8 := by
  rw [attributeAddr_eq_append]
  simp only [toNat_append_eq_add, BitVec.extractLsb'_toNat, BitVec.toNat_ofNat, Nat.shiftRight_eq_div_pow]
  omega

/-- `attrBits` as a number: those of v's quadrant (R1123). -/
theorem toNat_attrBits (v : BitVec 15) (b : Byte) :
    (attrBits v b).toNat = b.toNat / 2 ^ (4 * (v.toNat / 64 % 2) + 2 * (v.toNat / 2 % 2)) % 4 := by
  have hrow : v.getLsbD 6 = decide (v.toNat / 64 % 2 = 1) := Nat.testBit_eq_decide_div_mod_eq ..
  have hcol : v.getLsbD 1 = decide (v.toNat / 2 % 2 = 1) := Nat.testBit_eq_decide_div_mod_eq ..
  rw [attrBits, hrow, hcol]
  rcases Nat.mod_two_eq_zero_or_one (v.toNat / 64) with h6 | h6 <;>
    rcases Nat.mod_two_eq_zero_or_one (v.toNat / 2) with h1 | h1 <;>
    simp [h6, h1, Nat.shiftRight_eq_div_pow]

/-- An address computed on integers is the number itself when it fits (R1144). -/
theorem toNat_ofInt_14 {x : Int} (h0 : 0 ≤ x) (h1 : x < 0x4000) : ((BitVec.ofInt 14 x).toNat : Int) = x := by
  rw [BitVec.toNat_ofInt]
  omega

/-- The tile of an 8x16 sprite is even (R1144). -/
theorem toNat_and_FE (b : Byte) : (b &&& 0xFE).toNat = b.toNat / 2 * 2 := by
  have hmask : ∀ i < 8, (0xFE : Byte).getLsbD i = decide (1 ≤ i) := by decide
  have hshift : b &&& (0xFE : Byte) = b >>> 1 <<< 1 := by
    apply BitVec.eq_of_getLsbD_eq
    intro i hi
    rw [BitVec.getLsbD_and, hmask i hi, BitVec.getLsbD_shiftLeft, BitVec.getLsbD_ushiftRight]
    cases i with
    | zero => simp
    | succ n => simp [hi, Nat.add_comm 1 n]
  have hb := b.isLt
  rw [hshift, BitVec.toNat_shiftLeft, BitVec.toNat_ushiftRight, Nat.shiftLeft_eq, Nat.shiftRight_eq_div_pow]
  omega

/-- A sprite's pattern address as a number, for a row of the sprite (R1144). -/
theorem toNat_spritePatternAddr {ctrl tile : Byte} {row : Int} (h0 : 0 ≤ row)
    (h1 : row < if ctrl.getLsbD 5 then 16 else 8) :
    ((spritePatternAddr ctrl tile row).toNat : Int) =
      if ctrl.getLsbD 5 then
        (if tile.toNat % 2 = 1 then 0x1000 else 0) + 16 * ((tile.toNat / 2 * 2 : Nat) : Int) +
          (if 8 ≤ row then row + 8 else row)
      else (if ctrl.getLsbD 3 then 0x1000 else 0) + 16 * (tile.toNat : Int) + row := by
  have ht := tile.isLt
  have hbit : tile.getLsbD 0 = decide (tile.toNat % 2 = 1) := by
    rw [← BitVec.testBit_toNat, Nat.testBit_zero]
  rw [spritePatternAddr, hbit]
  cases ctrl.getLsbD 5
  · simp only [Bool.false_eq_true, if_false] at h1 ⊢
    apply toNat_ofInt_14 <;> split <;> omega
  · simp only [if_true, decide_eq_true_eq, toNat_and_FE] at h1 ⊢
    split
    · rw [toNat_ofInt_14] <;> split <;> omega
    · rw [toNat_ofInt_14] <;> split <;> omega

/-- A sprite's row, turned over or not, is one of the sprite's rows (R1144). -/
theorem spriteRow_bounds {line : Int} {h : Nat} {y attr : Byte} (h0 : 0 ≤ line - (y.toNat : Int))
    (h1 : line - (y.toNat : Int) < h) : 0 ≤ spriteRow line h y attr ∧ spriteRow line h y attr < h := by
  rw [spriteRow]
  split <;> omega

theorem Ppu.spriteHeight_cast (p : Ppu) : (p.spriteHeight : Int) = if p.ctrl.getLsbD 5 then 16 else 8 := by
  rw [Ppu.spriteHeight]
  split <;> rfl

/-- The address of a slot's low byte for a sprite in range (R1144). -/
theorem toNat_sprAddr {p : Ppu} {i : Nat} (hi : i < p.sprCount)
    (h0 : 0 ≤ p.scanline - ((p.secOam.read (4 * i)).toNat : Int))
    (h1 : p.scanline - ((p.secOam.read (4 * i)).toNat : Int) < p.spriteHeight) :
    let tile := (p.secOam.read (4 * i + 1)).toNat
    let row := spriteRow p.scanline p.spriteHeight (p.secOam.read (4 * i)) (p.secOam.read (4 * i + 2))
    ((p.sprAddr i).toNat : Int) =
      if p.ctrl.getLsbD 5 then
        (if tile % 2 = 1 then 0x1000 else 0) + 16 * ((tile / 2 * 2 : Nat) : Int) + (if 8 ≤ row then row + 8 else row)
      else (if p.ctrl.getLsbD 3 then 0x1000 else 0) + 16 * (tile : Int) + row := by
  obtain ⟨hr0, hr1⟩ := spriteRow_bounds (attr := p.secOam.read (4 * i + 2)) h0 h1
  rw [p.spriteHeight_cast] at hr1
  rw [Ppu.sprAddr, if_pos hi]
  exact toNat_spritePatternAddr hr0 hr1

/-- The address of an empty slot: tile $FF, row 0 (R1144). -/
theorem toNat_sprAddr_of_empty {p : Ppu} {i : Nat} (hi : ¬ i < p.sprCount) :
    (p.sprAddr i).toNat =
      if p.ctrl.getLsbD 5 then 0x1FE0 else (if p.ctrl.getLsbD 3 then 0x1000 else 0) + 0xFF0 := by
  rw [Ppu.sprAddr, if_neg hi, spritePatternAddr]
  cases p.ctrl.getLsbD 5
  · cases p.ctrl.getLsbD 3 <;> rfl
  · rfl

/-! ## The shift registers as numbers -/

/-- A shift register after a dot's shift and reload (R1124-R1126). -/
def shiftRegister (d : Nat) (r : BitVec 16) (b : Byte) : BitVec 16 :=
  let moved := if isShiftDot d then r <<< 1 else r
  if isReloadDot d then withLowByte moved b else moved

theorem Ppu.shiftStage_registers (p : Ppu) :
    p.shiftStage.bgPatLo = shiftRegister p.dot p.bgPatLo p.patLoNext ∧
    p.shiftStage.bgPatHi = shiftRegister p.dot p.bgPatHi p.patHiNext ∧
    p.shiftStage.bgAttrLo = shiftRegister p.dot p.bgAttrLo (if p.atNext.getLsbD 0 then 0xFF else 0x00) ∧
    p.shiftStage.bgAttrHi = shiftRegister p.dot p.bgAttrHi (if p.atNext.getLsbD 1 then 0xFF else 0x00) := by
  unfold Ppu.shiftStage shiftRegister
  dsimp only
  split <;> split <;> exact ⟨rfl, rfl, rfl, rfl⟩

/-- The register as a number: moved at the dots of R1124, its low byte taken at those of R1125. -/
theorem toNat_shiftRegister (d : Nat) (r : BitVec 16) (b : Byte) :
    let moved := if (2 ≤ d ∧ d ≤ 257) ∨ (322 ≤ d ∧ d ≤ 337) then r.toNat * 2 % 65536 else r.toNat
    (shiftRegister d r b).toNat =
      if d % 8 = 1 ∧ ((9 ≤ d ∧ d ≤ 257) ∨ d = 329 ∨ d = 337) then moved / 256 * 256 + b.toNat else moved := by
  have hmoved : (if isShiftDot d then r <<< 1 else r).toNat =
      if (2 ≤ d ∧ d ≤ 257) ∨ (322 ≤ d ∧ d ≤ 337) then r.toNat * 2 % 65536 else r.toNat := by
    simp only [isShiftDot_iff]
    split
    · rw [BitVec.toNat_shiftLeft, Nat.shiftLeft_eq]
    · rfl
  simp only [shiftRegister, isReloadDot_iff]
  split
  · rw [toNat_withLowByte, hmoved]
  · exact hmoved

theorem toNat_attrByte (c : Bool) : (if c then (0xFF : Byte) else 0x00).toNat = if c then 0xFF else 0 := by
  cases c <;> rfl

/-! ## The reads of a dot -/

/-- The address that the background stage reads at this dot, if it reads (R1121, R1122). -/
def State.backgroundRead (s : State) : Option (BitVec 14) :=
  let d := s.ppu.dot
  let fetches := (1 ≤ d ∧ d ≤ 256) ∨ (321 ≤ d ∧ d ≤ 336)
  if fetches ∧ d % 8 = 1 then some s.ppu.nametableAddr
  else if fetches ∧ d % 8 = 3 then some s.ppu.attributeAddr
  else if fetches ∧ d % 8 = 5 then some s.ppu.patternAddr
  else if fetches ∧ d % 8 = 7 then some (s.ppu.patternAddr + 8)
  else if d = 337 ∨ d = 339 then some s.ppu.nametableAddr
  else none

/-- The address that the sprite stage reads at this dot, if it reads (R1143). -/
def State.spriteRead (s : State) : Option (BitVec 14) :=
  let d := s.ppu.dot
  let sprites := 257 ≤ d ∧ d ≤ 320
  if sprites ∧ (d % 8 = 2 ∨ d % 8 = 4) then some s.ppu.nametableAddr
  else if sprites ∧ d % 8 = 6 then some (s.ppu.sprAddr ((d - 257) / 8))
  else if sprites ∧ d % 8 = 0 then some (s.ppu.sprAddr ((d - 257) / 8) + 8)
  else none

/-- The cartridge after at most one read. -/
def State.cartAfter (s : State) (read : Option (BitVec 14)) : Option Cartridge :=
  match read with
  | some a => (s.afterPpuRead a).cart
  | none => s.cart

theorem backgroundStage_cart (s : State) : s.backgroundStage.cart = s.cartAfter s.backgroundRead := by
  rw [backgroundStage_cases, State.backgroundRead]
  dsimp only
  split
  · rfl
  · split
    · rfl
    · split
      · rfl
      · split
        · rfl
        · split
          · rw [if_neg (by omega)]
            rfl
          · split <;> rfl

theorem spriteStage_cart (s : State) : s.spriteStage.cart = s.cartAfter s.spriteRead := by
  rw [spriteStage_cases, State.spriteRead]
  dsimp only
  split
  · rfl
  · split
    · rfl
    · split <;> rfl

/-- The latches after the background stage: each is read at its own phase (R1121). -/
theorem backgroundStage_latches (s : State) :
    let d := s.ppu.dot
    let fetches := (1 ≤ d ∧ d ≤ 256) ∨ (321 ≤ d ∧ d ≤ 336)
    let p := s.ppu
    let q := s.backgroundStage.ppu
    q.ntNext = (if fetches ∧ d % 8 = 1 then s.ppuRead p.nametableAddr else p.ntNext) ∧
    q.atNext = (if fetches ∧ d % 8 = 3 then attrBits p.v (s.ppuRead p.attributeAddr) else p.atNext) ∧
    q.patLoNext = (if fetches ∧ d % 8 = 5 then s.ppuRead p.patternAddr else p.patLoNext) ∧
    q.patHiNext = (if fetches ∧ d % 8 = 7 then s.ppuRead (p.patternAddr + 8) else p.patHiNext) := by
  dsimp only
  rw [backgroundStage_cases]
  dsimp only
  split
  · refine ⟨rfl, ?_, ?_, ?_⟩ <;> rw [if_neg (by omega)]
  · split
    · refine ⟨rfl, rfl, ?_, ?_⟩ <;> rw [if_neg (by omega)]
    · split
      · rw [if_neg (by omega)]
        exact ⟨rfl, rfl, rfl, rfl⟩
      · split
        · exact ⟨rfl, rfl, rfl, rfl⟩
        · split
          · exact ⟨rfl, rfl, rfl, rfl⟩
          · split
            · rw [afterPpuRead_ppu]
              exact ⟨rfl, rfl, rfl, rfl⟩
            · exact ⟨rfl, rfl, rfl, rfl⟩

/-- The state that a rendering dot's background stage starts from: only flags and shift registers differ. -/
theorem shifted_flagEvents_ppu (s : State) :
    s.flagEvents.shifted.ppu =
      { s.ppu with
        vbl := s.flagEvents.ppu.vbl
        sprite0Hit := s.flagEvents.ppu.sprite0Hit
        overflow := s.flagEvents.ppu.overflow
        vblSuppress := s.flagEvents.ppu.vblSuppress
        secCount := s.flagEvents.ppu.secCount
        secHasZero := s.flagEvents.ppu.secHasZero
        bgPatLo := s.flagEvents.ppu.shiftStage.bgPatLo
        bgPatHi := s.flagEvents.ppu.shiftStage.bgPatHi
        bgAttrLo := s.flagEvents.ppu.shiftStage.bgAttrLo
        bgAttrHi := s.flagEvents.ppu.shiftStage.bgAttrHi } := by
  have hshift := Ppu.shiftStage_eq s.flagEvents.ppu
  have hflag := flagEvents_ppu s
  unfold State.shifted
  dsimp only
  generalize s.flagEvents.ppu.shiftStage = q at hshift ⊢
  generalize s.flagEvents.ppu = p at hshift hflag ⊢
  rw [hshift, hflag]

/-- A PPU-side read during a dot's background stage is that of the dot's start. -/
theorem ppuRead_shifted_flagEvents (s : State) (a : BitVec 14) : s.flagEvents.shifted.ppuRead a = s.ppuRead a := by
  apply ppuRead_congr
  · rw [shifted_flagEvents_ppu]
  · show s.flagEvents.cart = _
    rw [flagEvents_eq]
  · show s.flagEvents.vram = _
    rw [flagEvents_eq]

/-- The latches after a rendering dot (R1121). -/
theorem ppuStep_latches_of_rendering {s : State} (h : s.ppu.renderingEnabled = true)
    (hl : s.ppu.renderLine = true) :
    let d := s.ppu.dot
    let fetches := (1 ≤ d ∧ d ≤ 256) ∨ (321 ≤ d ∧ d ≤ 336)
    let p := s.ppu
    let q := s.ppuStep.ppu
    q.ntNext = (if fetches ∧ d % 8 = 1 then s.ppuRead p.nametableAddr else p.ntNext) ∧
    q.atNext = (if fetches ∧ d % 8 = 3 then attrBits p.v (s.ppuRead p.attributeAddr) else p.atNext) ∧
    q.patLoNext = (if fetches ∧ d % 8 = 5 then s.ppuRead p.patternAddr else p.patLoNext) ∧
    q.patHiNext = (if fetches ∧ d % 8 = 7 then s.ppuRead (p.patternAddr + 8) else p.patHiNext) := by
  obtain ⟨-, hlatches, -⟩ := ppuStep_fields_of_rendering h hl
  simp only [Ppu.latches, Prod.mk.injEq] at hlatches
  obtain ⟨hnt, hat, hlo, hhi⟩ := hlatches
  have hstage := backgroundStage_latches s.flagEvents.shifted
  simp only [ppuRead_shifted_flagEvents, shifted_flagEvents_ppu] at hstage
  dsimp only
  rw [hnt, hat, hlo, hhi]
  exact hstage

/-- The counts that the evaluation stage leaves: taken over at dot 257 (R1142). -/
theorem Ppu.evaluateStage_counts (p : Ppu) :
    p.evaluateStage.sprCount = (if p.dot = 257 then p.secCount else p.sprCount) ∧
    p.evaluateStage.sprZeroInLine = (if p.dot = 257 then p.secHasZero else p.sprZeroInLine) := by
  by_cases h64 : p.visibleLine = true ∧ p.dot = 64
  · rw [p.evaluateStage_of_clear h64.1 h64.2, if_neg (by omega), if_neg (by omega), Ppu.clearSecOam]
    generalize p.secOam.fill 0 32 0xFF = m
    exact ⟨rfl, rfl⟩
  · by_cases h256 : p.visibleLine = true ∧ p.dot = 256
    · rw [p.evaluateStage_of_evaluation h256.1 h256.2, if_neg (by omega), if_neg (by omega)]
      exact ⟨rfl, rfl⟩
    · rw [p.evaluateStage_of_other h64 h256]
      split <;> exact ⟨rfl, rfl⟩

/-- The loaded counts after a rendering dot (R1142). -/
theorem ppuStep_counts_of_rendering {s : State} (h : s.ppu.renderingEnabled = true)
    (hl : s.ppu.renderLine = true) :
    s.ppuStep.ppu.sprCount = (if s.ppu.dot = 257 then s.ppu.secCount else s.ppu.sprCount) ∧
    s.ppuStep.ppu.sprZeroInLine = (if s.ppu.dot = 257 then s.ppu.secHasZero else s.ppu.sprZeroInLine) := by
  have he := ppuStep_evaluated_of_rendering h hl
  obtain ⟨-, -, -, -, hcount, hzero⟩ := Ppu.evaluated_inj.mp he
  obtain ⟨hc, hz⟩ := s.flagEvents.ppu.evaluateStage_counts
  obtain ⟨-, -, -, -, -, -, hfc, hfz, -, -, hfd⟩ := flagEvents_fields s
  rw [hcount, hzero, hc, hz, hfd, hfc, hfz]
  by_cases hd : s.ppu.dot = 257
  · have hf : s.flagEvents = s := flagEvents_of_ne (by omega) (by omega)
    rw [hf]
    exact ⟨rfl, rfl⟩
  · rw [if_neg hd, if_neg hd, if_neg hd, if_neg hd]
    exact ⟨rfl, rfl⟩

/-! ## The sprite fetches -/

theorem Ppu.expireLatch_sprLoLatch (p : Ppu) :
    p.expireLatch.sprLoLatch =
      if (257 ≤ p.dot ∧ p.dot ≤ 320) ∧ p.dot % 8 = 0 then none else p.sprLoLatch := by
  have hiff : (isSpriteDot p.dot && (p.dot - 257) % 8 == 7) = true ↔
      (257 ≤ p.dot ∧ p.dot ≤ 320) ∧ p.dot % 8 = 0 := by
    rw [Bool.and_eq_true, isSpriteDot_iff, beq_iff_eq]
    omega
  rw [Ppu.expireLatch, apply_ite Ppu.sprLoLatch]
  simp only [hiff]

/-- The slots and the low byte in flight after the sprite stage (R1143). -/
theorem spriteStage_slots (s : State) :
    let d := s.ppu.dot
    let sprites := 257 ≤ d ∧ d ≤ 320
    let slot := (d - 257) / 8
    s.spriteStage.ppu.sprLoLatch =
      (if sprites ∧ d % 8 = 6 then some (s.ppuRead (s.ppu.sprAddr slot)) else s.ppu.sprLoLatch) ∧
    s.spriteStage.ppu.slots =
      (if sprites ∧ d % 8 = 0 then
        (s.ppu.loadSlot slot s.spriteLow (s.ppuRead (s.ppu.sprAddr slot + 8))).slots
      else s.ppu.slots) := by
  dsimp only
  rw [spriteStage_cases]
  dsimp only
  split
  · rw [if_neg (by omega), if_neg (by omega), afterPpuRead_ppu]
    exact ⟨rfl, rfl⟩
  · split
    · rw [if_neg (by omega)]
      exact ⟨rfl, rfl⟩
    · split
      · rw [State.loadSprite, afterPpuRead_ppu]
        dsimp only
        rw [Ppu.loadSlot_eq]
        exact ⟨rfl, rfl⟩
      · exact ⟨rfl, rfl⟩

/-- A loaded slot and the slots beside it (R1143). -/
theorem Ppu.loadSlot_getElem (p : Ppu) (i : Nat) (lo hi : Byte) (j : Fin 8) :
    (p.loadSlot i lo hi).slots[j] =
      if j.val = i then
        let attr := p.secOam.read (4 * j.val + 2)
        let oriented (b : Byte) : Byte := if attr.getLsbD 6 then b.reverse else b
        if j.val < p.sprCount then ⟨oriented lo, oriented hi, p.secOam.read (4 * j.val + 3), attr⟩
        else { p.slots[j] with lo := 0, hi := 0 }
      else p.slots[j] := by
  rw [Ppu.loadSlot]
  by_cases hi8 : i < 8
  · rw [dif_pos hi8]
    by_cases hj : j.val = i
    · subst hj
      rw [if_pos rfl]
      split <;> simp [rev]
    · rw [if_neg hj]
      split <;> simp [Ne.symm hj]
  · rw [dif_neg hi8, if_neg (by omega)]

theorem beforeSprites_cart (s : State) : s.beforeSprites.cart = s.shifted.cartAfter s.shifted.backgroundRead :=
  backgroundStage_cart _

/-- Outside the fetch dots and dots 337 and 339 the background stage reads nothing (R1121). -/
theorem backgroundRead_of_sprites {s : State} (hd : 257 ≤ s.ppu.dot ∧ s.ppu.dot ≤ 320) :
    s.backgroundRead = none := by
  rw [State.backgroundRead]
  rw [if_neg (by omega), if_neg (by omega), if_neg (by omega), if_neg (by omega), if_neg (by omega)]

/-- Outside dots 257-320 the sprite stage reads nothing (R1143). -/
theorem spriteRead_of_not_sprites {s : State} (hd : ¬ (257 ≤ s.ppu.dot ∧ s.ppu.dot ≤ 320)) :
    s.spriteRead = none := by
  rw [State.spriteRead]
  rw [if_neg (by omega), if_neg (by omega), if_neg (by omega)]

/-- What the sprite stage of a dot in 257-320 reads from is what the dot began with. -/
theorem beforeSprites_of_sprites {s : State} (hd : 257 ≤ s.ppu.dot ∧ s.ppu.dot ≤ 320) :
    s.beforeSprites.cart = s.cart ∧ s.beforeSprites.params = s.params ∧
    ∀ a, s.beforeSprites.ppuRead a = s.ppuRead a := by
  have hdot : s.shifted.ppu.dot = s.ppu.dot := by
    show s.ppu.shiftStage.dot = _
    rw [Ppu.shiftStage_eq]
  have hcart : s.beforeSprites.cart = s.cart := by
    rw [beforeSprites_cart, backgroundRead_of_sprites (by rwa [hdot])]
    rfl
  have hrest : s.beforeSprites.params = s.params ∧ s.beforeSprites.vram = s.vram := by
    rw [State.beforeSprites]
    dsimp only
    rw [backgroundStage_eq]
    exact ⟨rfl, rfl⟩
  obtain ⟨hfixed, -⟩ := beforeSprites_ppu s
  simp only [Ppu.fixed, Prod.mk.injEq] at hfixed
  obtain ⟨-, -, -, -, -, -, -, -, hpalette, -⟩ := hfixed
  exact ⟨hcart, hrest.1, fun a => ppuRead_congr a hpalette hcart hrest.2⟩

theorem Ppu.sprAddr_congr {p q : Ppu} (hctrl : p.ctrl = q.ctrl) (hline : p.scanline = q.scanline)
    (hsec : p.secOam = q.secOam) (hcount : p.sprCount = q.sprCount) (i : Nat) : p.sprAddr i = q.sprAddr i := by
  simp only [Ppu.sprAddr, Ppu.spriteHeight, hctrl, hline, hsec, hcount]

/-- Past dot 257 the sprite stage works on the secondary OAM, the count and the control bits of the dot's start. -/
theorem beforeSprites_of_late {s : State} (hd : 257 < s.ppu.dot) :
    s.beforeSprites.ppu.ctrl = s.ppu.ctrl ∧ s.beforeSprites.ppu.secOam = s.ppu.secOam ∧
    s.beforeSprites.ppu.sprCount = s.ppu.sprCount ∧ ∀ i, s.beforeSprites.ppu.sprAddr i = s.ppu.sprAddr i := by
  obtain ⟨hfixed, -, -, -, -, -, -, hline, -⟩ := beforeSprites_ppu s
  simp only [Ppu.fixed, Prod.mk.injEq] at hfixed
  obtain ⟨hctrl, -⟩ := hfixed
  have he := beforeSprites_evaluated s
  rw [Ppu.evaluateStage_of_other (by omega) (by omega), if_neg (by omega)] at he
  obtain ⟨hsec, -, -, -, hcount, -⟩ := Ppu.evaluated_inj.mp he
  exact ⟨hctrl, hsec, hcount, Ppu.sprAddr_congr hctrl hline hsec hcount⟩

/-- The low byte in flight after a rendering dot (R1143). -/
theorem ppuStep_sprLoLatch_of_rendering {s : State} (h : s.ppu.renderingEnabled = true)
    (hl : s.ppu.renderLine = true) :
    let d := s.ppu.dot
    let sprites := 257 ≤ d ∧ d ≤ 320
    s.ppuStep.ppu.sprLoLatch =
      if sprites ∧ d % 8 = 6 then some (s.ppuRead (s.ppu.sprAddr ((d - 257) / 8)))
      else if sprites ∧ d % 8 = 0 then none
      else s.ppu.sprLoLatch := by
  obtain ⟨-, -, -, -, -, -, hend, -⟩ := Ppu.endOfDot_fields s.flagEvents.renderStages.pixelStage.ppu
  obtain ⟨-, -, -, -, -, -, hpixel, hpdot⟩ := pixelStage_fields s.flagEvents.renderStages
  obtain ⟨-, -, -, -, -, -, -, hrdot⟩ := renderStages_ppu s.flagEvents
  obtain ⟨-, -, -, -, -, hbefore, -, -, hbdot⟩ := beforeSprites_ppu s.flagEvents
  obtain ⟨-, -, -, -, -, hflag, -, -, -, -, hfdot⟩ := flagEvents_fields s
  obtain ⟨hsprite, -⟩ := spriteStage_slots s.flagEvents.beforeSprites
  rw [ppuStep_of_rendering h hl]
  dsimp only
  rw [hend, Ppu.expireLatch_sprLoLatch, hpdot, hpixel, hrdot, renderStages_def, hsprite, hbdot, hfdot, hbefore, hflag]
  by_cases h6 : (257 ≤ s.ppu.dot ∧ s.ppu.dot ≤ 320) ∧ s.ppu.dot % 8 = 6
  · have hf : s.flagEvents = s := flagEvents_of_ne (by omega) (by omega)
    obtain ⟨-, -, hread⟩ := beforeSprites_of_sprites h6.1
    obtain ⟨-, -, -, haddr⟩ := beforeSprites_of_late (s := s) (by omega)
    rw [if_neg (by omega), if_pos h6, if_pos h6, hf, hread, haddr]
  · rw [if_neg h6, if_neg h6]

/-- The slots after a rendering dot (R1143). -/
theorem ppuStep_slots_of_rendering {s : State} (h : s.ppu.renderingEnabled = true)
    (hl : s.ppu.renderLine = true) :
    ∃ lo : Byte, (∀ b, s.ppu.sprLoLatch = some b → lo = b) ∧ ∀ j : Fin 8,
      let d := s.ppu.dot
      let slot := (d - 257) / 8
      s.ppuStep.ppu.slots[j] =
        if (257 ≤ d ∧ d ≤ 320) ∧ d % 8 = 0 then
          (s.ppu.loadSlot slot lo (s.ppuRead (s.ppu.sprAddr slot + 8))).slots[j]
        else s.ppu.slots[j] := by
  obtain ⟨-, -, -, -, hslots, -⟩ := ppuStep_fields_of_rendering h hl
  obtain ⟨-, -, -, -, hbefore, hlatch, -, -, hbdot⟩ := beforeSprites_ppu s.flagEvents
  obtain ⟨-, -, -, -, hfslots, hflatch, -, -, -, -, hfdot⟩ := flagEvents_fields s
  obtain ⟨-, hsprite⟩ := spriteStage_slots s.flagEvents.beforeSprites
  refine ⟨s.flagEvents.beforeSprites.spriteLow, fun b hb => ?_, fun j => ?_⟩
  · rw [State.spriteLow, hlatch, hflatch, hb]
    rfl
  · dsimp only
    rw [hslots, hsprite, hbdot, hfdot]
    by_cases h0 : (257 ≤ s.ppu.dot ∧ s.ppu.dot ≤ 320) ∧ s.ppu.dot % 8 = 0
    · have hf : s.flagEvents = s := flagEvents_of_ne (by omega) (by omega)
      rw [hf] at hbefore ⊢
      obtain ⟨-, -, hread⟩ := beforeSprites_of_sprites h0.1
      obtain ⟨-, hsec, hcount, haddr⟩ := beforeSprites_of_late (s := s) (by omega)
      rw [if_pos h0, if_pos h0, hread, haddr, Ppu.loadSlot_getElem, Ppu.loadSlot_getElem, hsec, hcount, hbefore]
    · rw [if_neg h0, if_neg h0, hbefore, hfslots]

/-- The shift registers after a rendering dot (R1124-R1126). -/
theorem ppuStep_registers_of_rendering {s : State} (h : s.ppu.renderingEnabled = true)
    (hl : s.ppu.renderLine = true) :
    let p := s.ppu
    let q := s.ppuStep.ppu
    q.bgPatLo = shiftRegister p.dot p.bgPatLo p.patLoNext ∧ q.bgPatHi = shiftRegister p.dot p.bgPatHi p.patHiNext ∧
    q.bgAttrLo = shiftRegister p.dot p.bgAttrLo (if p.atNext.getLsbD 0 then 0xFF else 0x00) ∧
    q.bgAttrHi = shiftRegister p.dot p.bgAttrHi (if p.atNext.getLsbD 1 then 0xFF else 0x00) := by
  obtain ⟨hshifters, -⟩ := ppuStep_fields_of_rendering h hl
  simp only [Ppu.shifters, Prod.mk.injEq] at hshifters
  obtain ⟨hpl, hph, hal, hah⟩ := hshifters
  have hstage := s.flagEvents.ppu.shiftStage_registers
  rw [← hpl, ← hph, ← hal, ← hah] at hstage
  dsimp only
  rw [flagEvents_ppu] at hstage
  exact hstage

/-! ## One read for each dot -/

/-- The address that a rendering dot reads, if it reads (R1121, R1122, R1143). A nametable read is at the v that the
dot leaves. -/
def State.dotRead (s : State) : Option (BitVec 14) :=
  let d := s.ppu.dot
  let fetches := (1 ≤ d ∧ d ≤ 256) ∨ (321 ≤ d ∧ d ≤ 336)
  let sprites := 257 ≤ d ∧ d ≤ 320
  let slot := (d - 257) / 8
  if fetches ∧ d % 8 = 1 then some s.ppuStep.ppu.nametableAddr
  else if fetches ∧ d % 8 = 3 then some s.ppu.attributeAddr
  else if fetches ∧ d % 8 = 5 then some s.ppu.patternAddr
  else if fetches ∧ d % 8 = 7 then some (s.ppu.patternAddr + 8)
  else if d = 337 ∨ d = 339 then some s.ppuStep.ppu.nametableAddr
  else if sprites ∧ (d % 8 = 2 ∨ d % 8 = 4) then some s.ppuStep.ppu.nametableAddr
  else if sprites ∧ d % 8 = 6 then some (s.ppu.sprAddr slot)
  else if sprites ∧ d % 8 = 0 then some (s.ppu.sprAddr slot + 8)
  else none

theorem Ppu.nametableAddr_congr {p q : Ppu} (h : p.v = q.v) : p.nametableAddr = q.nametableAddr := by
  rw [Ppu.nametableAddr, Ppu.nametableAddr, h]

/-- At the nametable reads of the background v does not move. -/
theorem ppuStep_v_of_nametableRead {s : State} (h : s.ppu.renderingEnabled = true) (hl : s.ppu.renderLine = true)
    (hd : (((1 ≤ s.ppu.dot ∧ s.ppu.dot ≤ 256) ∨ (321 ≤ s.ppu.dot ∧ s.ppu.dot ≤ 336)) ∧ s.ppu.dot % 8 = 1) ∨
      s.ppu.dot = 337 ∨ s.ppu.dot = 339) : s.ppuStep.ppu.v = s.ppu.v := by
  rw [ppuStep_v_of_rendering h hl]
  rw [if_neg (by omega), if_neg (by omega), if_neg (by omega), if_neg (by omega)]

/-- The background stage reads where the dot does, outside dots 257-320. -/
theorem backgroundRead_eq_dotRead {s : State} (h : s.ppu.renderingEnabled = true) (hl : s.ppu.renderLine = true)
    (hd : ¬ (257 ≤ s.ppu.dot ∧ s.ppu.dot ≤ 320)) : s.flagEvents.shifted.backgroundRead = s.dotRead := by
  have hstart : s.flagEvents.shifted.backgroundRead = s.backgroundRead := by
    rw [State.backgroundRead, shifted_flagEvents_ppu]
    rfl
  rw [hstart, State.backgroundRead, State.dotRead]
  split
  · next hc => rw [Ppu.nametableAddr_congr (ppuStep_v_of_nametableRead h hl (.inl hc))]
  · split
    · rfl
    · split
      · rfl
      · split
        · rfl
        · split
          · next hc => rw [Ppu.nametableAddr_congr (ppuStep_v_of_nametableRead h hl (.inr hc))]
          · rw [if_neg (by omega), if_neg (by omega), if_neg (by omega)]

/-- The sprite stage reads where the dot does, in dots 257-320. -/
theorem spriteRead_eq_dotRead {s : State} (h : s.ppu.renderingEnabled = true) (hl : s.ppu.renderLine = true)
    (hd : 257 ≤ s.ppu.dot ∧ s.ppu.dot ≤ 320) : s.beforeSprites.spriteRead = s.dotRead := by
  have hf : s.flagEvents = s := flagEvents_of_ne (by omega) (by omega)
  obtain ⟨-, -, hv, -⟩ := ppuStep_fields_of_rendering h hl
  obtain ⟨-, -, -, hbv, -, -, -, -, hbdot⟩ := beforeSprites_ppu s
  have hnt : s.beforeSprites.ppu.nametableAddr = s.ppuStep.ppu.nametableAddr := by
    apply Ppu.nametableAddr_congr
    rw [hv, hf, hbv]
  rw [State.spriteRead, State.dotRead, hbdot, hnt]
  rw [if_neg (c := _ ∧ s.ppu.dot % 8 = 1) (by omega), if_neg (c := _ ∧ s.ppu.dot % 8 = 3) (by omega),
    if_neg (c := _ ∧ s.ppu.dot % 8 = 5) (by omega), if_neg (c := _ ∧ s.ppu.dot % 8 = 7) (by omega),
    if_neg (c := s.ppu.dot = 337 ∨ s.ppu.dot = 339) (by omega)]
  split
  · rfl
  · split
    · next hc =>
      obtain ⟨-, -, -, haddr⟩ := beforeSprites_of_late (s := s) (by omega)
      rw [haddr]
    · split
      · next hc =>
        obtain ⟨-, -, -, haddr⟩ := beforeSprites_of_late (s := s) (by omega)
        rw [haddr]
      · rfl

theorem State.cartAfter_congr {s t : State} (hc : t.cart = s.cart) (hq : t.params = s.params)
    (read : Option (BitVec 14)) : t.cartAfter read = s.cartAfter read := by
  cases read with
  | none => exact hc
  | some a => exact afterPpuRead_cart_congr a hc hq

/-- The cartridge after a rendering dot: it sees the dot's one read (R1102). -/
theorem ppuStep_cart_of_rendering {s : State} (h : s.ppu.renderingEnabled = true) (hl : s.ppu.renderLine = true) :
    s.ppuStep.cart = s.cartAfter s.dotRead := by
  obtain ⟨-, -, -, -, -, hcart, -⟩ := ppuStep_fields_of_rendering h hl
  rw [hcart, renderStages_def, spriteStage_cart]
  by_cases hd : 257 ≤ s.ppu.dot ∧ s.ppu.dot ≤ 320
  · have hf : s.flagEvents = s := flagEvents_of_ne (by omega) (by omega)
    obtain ⟨hc, hq, -⟩ := beforeSprites_of_sprites hd
    rw [hf, spriteRead_eq_dotRead h hl hd, State.cartAfter_congr hc hq]
  · obtain ⟨-, -, -, -, -, -, -, -, hbdot⟩ := beforeSprites_ppu s.flagEvents
    obtain ⟨-, -, -, -, -, -, -, -, -, -, hfdot⟩ := flagEvents_fields s
    rw [spriteRead_of_not_sprites (by rwa [hbdot, hfdot]), ← backgroundRead_eq_dotRead h hl hd]
    show s.flagEvents.beforeSprites.cart = _
    rw [beforeSprites_cart]
    apply State.cartAfter_congr
    · show s.flagEvents.cart = _
      rw [flagEvents_eq]
    · show s.flagEvents.params = _
      rw [flagEvents_eq]

/-- The byte that a rendering dot reads, 0 when it reads none. -/
def State.dotByte (s : State) : Byte :=
  match s.dotRead with
  | some a => s.ppuRead a
  | none => 0

theorem dotByte_of_dotRead {s : State} {a : BitVec 14} (h : s.dotRead = some a) : s.dotByte = s.ppuRead a := by
  rw [State.dotByte, h]

/-- The byte of each fetch, by the dots of R1121 and R1143. -/
theorem dotByte_fetches {s : State} (h : s.ppu.renderingEnabled = true) (hl : s.ppu.renderLine = true) :
    let d := s.ppu.dot
    let fetches := (1 ≤ d ∧ d ≤ 256) ∨ (321 ≤ d ∧ d ≤ 336)
    let sprites := 257 ≤ d ∧ d ≤ 320
    let slot := (d - 257) / 8
    (fetches ∧ d % 8 = 1 → s.ppuRead s.ppu.nametableAddr = s.dotByte) ∧
    (fetches ∧ d % 8 = 3 → s.ppuRead s.ppu.attributeAddr = s.dotByte) ∧
    (fetches ∧ d % 8 = 5 → s.ppuRead s.ppu.patternAddr = s.dotByte) ∧
    (fetches ∧ d % 8 = 7 → s.ppuRead (s.ppu.patternAddr + 8) = s.dotByte) ∧
    (sprites ∧ d % 8 = 6 → s.ppuRead (s.ppu.sprAddr slot) = s.dotByte) ∧
    (sprites ∧ d % 8 = 0 → s.ppuRead (s.ppu.sprAddr slot + 8) = s.dotByte) := by
  refine ⟨fun hc => ?_, fun hc => ?_, fun hc => ?_, fun hc => ?_, fun hc => ?_, fun hc => ?_⟩ <;>
    refine (dotByte_of_dotRead ?_).symm <;> rw [State.dotRead]
  · rw [if_pos hc, Ppu.nametableAddr_congr (ppuStep_v_of_nametableRead h hl (.inl hc))]
  · rw [if_neg (by omega), if_pos hc]
  · rw [if_neg (by omega), if_neg (by omega), if_pos hc]
  · rw [if_neg (by omega), if_neg (by omega), if_neg (by omega), if_pos hc]
  · rw [if_neg (by omega), if_neg (by omega), if_neg (by omega), if_neg (by omega), if_neg (by omega),
      if_neg (by omega), if_pos hc]
  · rw [if_neg (by omega), if_neg (by omega), if_neg (by omega), if_neg (by omega), if_neg (by omega),
      if_neg (by omega), if_neg (by omega), if_pos hc]

/-- Settles O49: the addresses as numbers, then each pipeline register from the one stage that writes it, with the
dot's one read. -/
theorem fetchAddresses : Obligations.FetchAddresses := by
  refine ⟨fun p b => ⟨toNat_attributeAddr p, toNat_attrBits p.v b⟩, ?_, fun p i hi => toNat_sprAddr_of_empty hi, ?_⟩
  · intro p i tile y flip h row hi h0 h1
    have hrow : spriteRow p.scanline p.spriteHeight (p.secOam.read (4 * i)) (p.secOam.read (4 * i + 2)) = row := by
      rw [spriteRow, p.spriteHeight_cast]
    have haddr := toNat_sprAddr hi h0 (by rw [p.spriteHeight_cast]; exact h1)
    rw [hrow] at haddr
    exact haddr
  · intro s hr hl1 hl2 p q d shifts reloads fetches sprites slot shifted nametable pattern readAt byte
    have hl := s.ppu.renderLine_iff.mpr ⟨hl1, hl2⟩
    have hnt : nametable = q.nametableAddr := by
      apply BitVec.eq_of_toNat_eq
      rw [toNat_nametableAddr, BitVec.toNat_ofNat, Nat.mod_eq_of_lt (by omega)]
    have hpat : pattern = p.patternAddr := by
      apply BitVec.eq_of_toNat_eq
      have hlt := p.patternAddr.isLt
      rw [toNat_patternAddr] at hlt ⊢
      rw [BitVec.toNat_ofNat, Nat.mod_eq_of_lt hlt]
    have hread : readAt = s.dotRead := by
      simp only [readAt, hnt, hpat]
      rfl
    have hbyte : byte = s.dotByte := by
      simp only [byte, hread]
      rfl
    obtain ⟨hpl, hph, hal, hah⟩ := ppuStep_registers_of_rendering hr hl
    obtain ⟨hntNext, hatNext, hloNext, hhiNext⟩ := ppuStep_latches_of_rendering hr hl
    obtain ⟨hcount, hzero⟩ := ppuStep_counts_of_rendering hr hl
    obtain ⟨hctrl, hmask, -, ht, hx, hw, hbuffer, hoam, hpalette, -⟩ := ppuStep_kept s
    obtain ⟨-, -, -, -, -, -, hvram, -⟩ := ppuStep_fields_of_rendering hr hl
    obtain ⟨hb1, hb3, hb5, hb7, hb6, hb0⟩ := dotByte_fetches hr hl
    obtain ⟨lo, hlo, hslots⟩ := ppuStep_slots_of_rendering hr hl
    rw [hread, hbyte]
    refine ⟨(ppuStep_cart_of_rendering hr hl).trans ?_, hvram,
      (congrArg BitVec.toNat hpl).trans (toNat_shiftRegister ..),
      (congrArg BitVec.toNat hph).trans (toNat_shiftRegister ..),
      (congrArg BitVec.toNat hal).trans ?_, (congrArg BitVec.toNat hah).trans ?_,
      hntNext.trans (ite_congr rfl hb1 fun _ => rfl),
      hatNext.trans (ite_congr rfl (fun hc => congrArg _ (hb3 hc)) fun _ => rfl),
      hloNext.trans (ite_congr rfl hb5 fun _ => rfl), hhiNext.trans (ite_congr rfl hb7 fun _ => rfl),
      hcount, hzero,
      (ppuStep_sprLoLatch_of_rendering hr hl).trans (ite_congr rfl (fun hc => congrArg some (hb6 hc)) fun _ => rfl),
      ⟨lo, hlo, fun j => ?_⟩, ht, hx, hw, hoam, hpalette, hctrl, hmask, hbuffer⟩
    · rfl
    · rw [← toNat_attrByte]
      exact toNat_shiftRegister ..
    · rw [← toNat_attrByte]
      exact toNat_shiftRegister ..
    · rw [hslots j]
      by_cases hc : (257 ≤ s.ppu.dot ∧ s.ppu.dot ≤ 320) ∧ s.ppu.dot % 8 = 0
      · rw [if_pos hc, hb0 hc, Ppu.loadSlot_getElem]
        exact if_congr ⟨fun hj => ⟨hc.1, hc.2, hj⟩, fun h => h.2.2⟩ rfl rfl
      · rw [if_neg hc]
        exact (if_neg fun h => hc ⟨h.1, h.2.1⟩).symm

end Sys2Proof.Machine

namespace Sys2Proof.Machine

/-! ## The pixel as numbers -/

theorem twoBits_eq (hi lo : Bool) : twoBits hi lo = 2 * hi.toNat + lo.toNat := by
  cases hi <;> cases lo <;> rfl

theorem twoBits_lt (hi lo : Bool) : twoBits hi lo < 4 := by
  cases hi <;> cases lo <;> decide

/-- The background pixel of a column, with its show and clip bits (R1130). -/
theorem Ppu.bgPixel_eq (p : Ppu) (xp : Nat) :
    p.bgPixel xp =
      if p.mask.getLsbD 3 && (decide (8 ≤ xp) || p.mask.getLsbD 1) then
        2 * (p.bgPatHi.getLsbD (15 - p.fineX.toNat)).toNat + (p.bgPatLo.getLsbD (15 - p.fineX.toNat)).toNat
      else 0 := by
  have hclip : decide (xp < 8) = !decide (8 ≤ xp) := by rw [← decide_not, decide_eq_decide, Nat.not_le]
  rw [Ppu.bgPixel, twoBits_eq, hclip]
  cases p.mask.getLsbD 3 <;> cases decide (8 ≤ xp) <;> cases p.mask.getLsbD 1 <;> rfl

/-- The pixel of one slot: bit 7 in the sprite's first column, bit 0 in its eighth (R1145). -/
theorem SpriteSlot.pixel_eq (sl : SpriteSlot) (xp : Nat) :
    sl.pixel xp =
      if sl.x.toNat ≤ xp ∧ xp ≤ sl.x.toNat + 7 then
        2 * (sl.hi.getLsbD (sl.x.toNat + 7 - xp)).toNat + (sl.lo.getLsbD (sl.x.toNat + 7 - xp)).toNat
      else 0 := by
  rw [SpriteSlot.pixel, twoBits_eq]
  by_cases h : sl.x.toNat ≤ xp ∧ xp ≤ sl.x.toNat + 7
  · rw [if_pos h, if_pos (by omega), show 7 - (xp - sl.x.toNat) = sl.x.toNat + 7 - xp by omega]
  · rw [if_neg h, if_neg (by omega)]

theorem SpriteSlot.pixel_lt (sl : SpriteSlot) (xp : Nat) : sl.pixel xp < 4 := by
  rw [SpriteSlot.pixel]
  split
  · exact twoBits_lt _ _
  · decide

theorem Ppu.bgPixel_lt (p : Ppu) (xp : Nat) : p.bgPixel xp < 4 := by
  rw [Ppu.bgPixel]
  split
  · decide
  · exact twoBits_lt _ _

theorem Ppu.bgPalette_lt (p : Ppu) : p.bgPalette < 4 := twoBits_lt _ _

/-- What the sprite search answers when no sprite shows (R1145). -/
def SpritePixel.none : SpritePixel := ⟨0, 0, false, false⟩

/-- The search finds nothing among transparent slots (R1145). -/
theorem firstSprite_of_transparent (zero : Bool) (xp i : Nat) {l : List SpriteSlot} (h : ∀ sl ∈ l, sl.pixel xp = 0) :
    firstSprite zero xp i l = SpritePixel.none := by
  induction l generalizing i with
  | nil => rfl
  | cons sl l ih =>
    rw [firstSprite, if_neg (not_not.mpr (h sl List.mem_cons_self)), ih _ fun a ha => h a (List.mem_cons_of_mem _ ha)]

/-- The search finds the first slot that is not transparent (R1145). -/
theorem firstSprite_of_first (zero : Bool) (xp i : Nat) {l : List SpriteSlot} {k : Nat} (hk : k < l.length)
    (hpx : l[k].pixel xp ≠ 0) (hbefore : ∀ j, (hj : j < k) → l[j].pixel xp = 0) :
    firstSprite zero xp i l =
      ⟨l[k].pixel xp, 4 + (l[k].attr &&& 0x03).toNat, l[k].attr.getLsbD 5, i + k == 0 && zero⟩ := by
  induction l generalizing i k with
  | nil => exact absurd hk (Nat.not_lt_zero _)
  | cons sl l ih =>
    cases k with
    | zero => exact if_pos (c := sl.pixel xp ≠ 0) hpx
    | succ k =>
      have h0 : sl.pixel xp = 0 := hbefore 0 (Nat.succ_pos k)
      rw [firstSprite, if_neg (not_not.mpr h0),
        ih (i + 1) (Nat.lt_of_succ_lt_succ hk) hpx fun j hj => hbefore (j + 1) (Nat.succ_lt_succ hj)]
      simp only [List.getElem_cons_succ]
      rw [show i + 1 + k = i + (k + 1) by omega]

/-- Whether sprites show in a column (R1145). -/
def Ppu.showsSprites (p : Ppu) (xp : Nat) : Bool := p.mask.getLsbD 4 && (decide (8 ≤ xp) || p.mask.getLsbD 2)

theorem Ppu.spritePixel_eq (p : Ppu) (xp : Nat) :
    p.spritePixel xp =
      if p.showsSprites xp then firstSprite p.sprZeroInLine xp 0 (p.slots.toList.take p.sprCount)
      else SpritePixel.none := by
  have hclip : decide (xp < 8) = !decide (8 ≤ xp) := by rw [← decide_not, decide_eq_decide, Nat.not_le]
  rw [Ppu.spritePixel, Ppu.showsSprites, hclip]
  cases p.mask.getLsbD 4 <;> cases decide (8 ≤ xp) <;> cases p.mask.getLsbD 2 <;> rfl

/-- The sprite pixel of a column where no sprite shows (R1145). -/
theorem Ppu.spritePixel_of_none {p : Ppu} {xp : Nat}
    (h : p.showsSprites xp = false ∨ ∀ i : Fin 8, i.val < p.sprCount → p.slots[i].pixel xp = 0) :
    p.spritePixel xp = SpritePixel.none := by
  rw [Ppu.spritePixel_eq]
  rcases h with h | h
  · rw [h]; rfl
  · rw [firstSprite_of_transparent, ite_self]
    intro sl hsl
    obtain ⟨j, hj, rfl⟩ := List.getElem_of_mem hsl
    rw [List.length_take, Vector.length_toList] at hj
    rw [List.getElem_take, Vector.getElem_toList]
    exact h ⟨j, by omega⟩ (show j < p.sprCount by omega)

/-- The sprite pixel of a column whose first visible slot is slot `i` (R1145). -/
theorem Ppu.spritePixel_of_first {p : Ppu} {xp : Nat} (i : Fin 8) (hs : p.showsSprites xp = true)
    (hi : i.val < p.sprCount) (hpx : p.slots[i].pixel xp ≠ 0) (hbefore : ∀ j, j < i → p.slots[j].pixel xp = 0) :
    p.spritePixel xp =
      ⟨p.slots[i].pixel xp, 4 + p.slots[i].attr.toNat % 4, p.slots[i].attr.getLsbD 5,
        decide (i.val = 0) && p.sprZeroInLine⟩ := by
  have hattr : ∀ b : Byte, (b &&& 0x03).toNat = b.toNat % 4 := fun b => by
    rw [BitVec.toNat_and]
    exact Nat.and_two_pow_sub_one_eq_mod _ 2
  have hlen : i.val < (p.slots.toList.take p.sprCount).length := by
    rw [List.length_take, Vector.length_toList]
    omega
  have hget : ∀ j : Fin 8, (hj : j.val < (p.slots.toList.take p.sprCount).length) →
      (p.slots.toList.take p.sprCount)[j.val] = p.slots[j] := by
    intro j hj
    rw [List.getElem_take, Vector.getElem_toList]
    rfl
  rw [Ppu.spritePixel_eq, if_pos hs, firstSprite_of_first _ _ _ hlen]
  · rw [hget i, hattr, Nat.zero_add]
    rfl
  · rw [hget i]
    exact hpx
  · intro j hj
    rw [hget ⟨j, by omega⟩]
    exact hbefore ⟨j, by omega⟩ hj

/-- A colour as the palette entry of its cell, under the greyscale mask (R1150, R1103). -/
theorem Ppu.colourAt_eq (p : Ppu) {idx : Nat} (h : idx < 32) :
    p.colourAt idx =
      p.palette[if idx % 4 = 0 then idx % 16 else idx]?.getD 0 &&& (if p.mask.getLsbD 0 then 0x30 else 0x3F) := by
  have hcell : (palIndex (BitVec.ofNat 14 (0x3F00 + idx))).toNat = if idx % 4 = 0 then idx % 16 else idx := by
    rw [toNat_palIndex, BitVec.toNat_ofNat]
    split <;> split <;> omega
  have hlt := (palIndex (BitVec.ofNat 14 (0x3F00 + idx))).isLt
  rw [Ppu.colourAt, Ppu.greyscale, Ppu.paletteEntry, ← hcell, Vector.getElem?_eq_getElem hlt]
  rfl

/-! ## The mux -/

/-- Without a sprite the mux takes the background, or the backdrop where that is transparent (R1150). -/
theorem muxIndex_of_none (bgPx bgPal : Nat) :
    muxIndex bgPx bgPal SpritePixel.none = if bgPx = 0 then 0 else 4 * bgPal + bgPx := by
  simp only [muxIndex, SpritePixel.none, and_true, if_true]
  split <;> rfl

/-- A visible sprite pixel is taken, unless it is behind a background pixel; sprite palettes start at $10 (R1150). -/
theorem muxIndex_of_sprite (bgPx bgPal a : Nat) {px : Nat} (behind zero : Bool) (h : px ≠ 0) :
    muxIndex bgPx bgPal ⟨px, 4 + a, behind, zero⟩ =
      if bgPx ≠ 0 ∧ behind = true then (if bgPx = 0 then 0 else 4 * bgPal + bgPx) else 0x10 + 4 * a + px := by
  by_cases hbg : bgPx = 0
  · simp [muxIndex, h, hbg, Nat.mul_add]
  · simp [muxIndex, h, hbg, Nat.mul_add]

/-- Without a sprite there is no sprite-0 hit (R1150). -/
theorem sprite0Hits_of_none (bgPx xp : Nat) (x255 : Bool) : sprite0Hits bgPx SpritePixel.none xp x255 = false := by
  simp [sprite0Hits, SpritePixel.none]

/-- Sprite-0 hit for a visible sprite pixel of the first slot, or of another (R1150). -/
theorem sprite0Hits_of_sprite (bgPx pal xp : Nat) {px : Nat} (behind first zero x255 : Bool) (h : px ≠ 0) :
    sprite0Hits bgPx ⟨px, pal, behind, first && zero⟩ xp x255 =
      (decide (bgPx ≠ 0) && first && zero && (decide (xp ≠ 255) || x255)) := by
  have hbne : ∀ a b : Nat, (a != b) = decide (a ≠ b) := fun a b => by rw [Bool.eq_iff_iff]; simp
  rw [sprite0Hits, bne_iff_ne.mpr h, Bool.and_true, hbne, hbne]
  dsimp only
  rw [Bool.and_assoc (decide (bgPx ≠ 0)) first]

/-! ## The pixel of a dot -/

/-- A dot's pixel and sprite-0 hit are those of its pixel stage. -/
theorem ppuStep_pixel (s : State) :
    s.ppuStep.pixel = s.beforePixel.pixelStage.pixel ∧
    s.ppuStep.ppu.sprite0Hit = s.beforePixel.pixelStage.ppu.sprite0Hit := by
  obtain ⟨-, -, -, -, -, -, -, hhit⟩ := Ppu.endOfDot_fields s.beforePixel.pixelStage.ppu
  rw [ppuStep_def]
  exact ⟨rfl, hhit⟩

theorem pixelStage_of_picture {s : State} (h : s.ppu.inPicture) :
    s.pixelStage =
      if s.ppu.renderingEnabled then s.muxPixel (s.ppu.dot - 1) s.ppu.scanline.toNat
      else s.backdropPixel (s.ppu.dot - 1) s.ppu.scanline.toNat := by
  rw [State.pixelStage, if_pos]
  simpa [Ppu.visibleLine, Ppu.inPicture, and_assoc] using h

/-- In the picture there is no flag event. -/
theorem flagEvents_of_picture {s : State} (h : s.ppu.inPicture) : s.flagEvents = s := by
  obtain ⟨h0, h239, -, -⟩ := h
  exact flagEvents_of_ne (by omega) (by omega)

/-- The pixel of a dot of the picture with rendering disabled (R1151). -/
theorem ppuStep_of_backdrop {s : State} (h : s.ppu.inPicture) (hr : s.ppu.renderingEnabled = false) :
    s.ppuStep.pixel = some ⟨s.ppu.dot - 1, s.ppu.scanline.toNat, s.ppu.colourAt 0⟩ ∧
    s.ppuStep.ppu.sprite0Hit = s.ppu.sprite0Hit := by
  have hbefore : s.beforePixel = s := by
    rw [State.beforePixel, flagEvents_of_picture h, if_neg (by simp [hr])]
  obtain ⟨hpixel, hhit⟩ := ppuStep_pixel s
  rw [hpixel, hhit, hbefore, pixelStage_of_picture h, if_neg (by simp [hr])]
  exact ⟨rfl, rfl⟩

theorem Ppu.bgPixel_congr {p q : Ppu} (hm : p.mask = q.mask) (hx : p.fineX = q.fineX)
    (hs : p.shifters = q.shifters) (xp : Nat) : p.bgPixel xp = q.bgPixel xp ∧ p.bgPalette = q.bgPalette := by
  simp only [Ppu.shifters, Prod.mk.injEq] at hs
  obtain ⟨hpl, hph, hal, hah⟩ := hs
  simp only [Ppu.bgPixel, Ppu.bgPalette, hm, hx, hpl, hph, hal, hah, and_self]

theorem Ppu.spritePixel_congr {p q : Ppu} (hm : p.mask = q.mask) (hs : p.slots = q.slots)
    (hc : p.sprCount = q.sprCount) (hz : p.sprZeroInLine = q.sprZeroInLine) (xp : Nat) :
    p.spritePixel xp = q.spritePixel xp := by
  simp only [Ppu.spritePixel, hm, hs, hc, hz]

theorem Ppu.colourAt_congr {p q : Ppu} (hm : p.mask = q.mask) (hp : p.palette = q.palette) (idx : Nat) :
    p.colourAt idx = q.colourAt idx := by
  simp only [Ppu.colourAt, Ppu.greyscale, Ppu.paletteEntry, hm, hp]

/-- In the picture, rendering leaves the slots and the counts of the line to the pixel. -/
theorem beforePixel_slots {s : State} (h : s.ppu.inPicture) (hr : s.ppu.renderingEnabled = true) :
    s.beforePixel.ppu.slots = s.ppu.slots ∧ s.beforePixel.ppu.sprCount = s.ppu.sprCount ∧
    s.beforePixel.ppu.sprZeroInLine = s.ppu.sprZeroInLine := by
  have hf := flagEvents_of_picture h
  obtain ⟨h0, h239, -, h256⟩ := h
  have hbefore : s.beforePixel = s.renderStages := by
    rw [State.beforePixel, hf, if_pos (by rw [hr, s.ppu.renderLine_iff.mpr ⟨by omega, h239⟩]; rfl)]
  obtain ⟨-, -, -, -, he, -⟩ := renderStages_ppu s
  obtain ⟨-, -, -, -, hcount, hzero⟩ := Ppu.evaluated_inj.mp (he.trans (beforeSprites_evaluated s))
  obtain ⟨hc, hz⟩ := s.ppu.evaluateStage_counts
  rw [if_neg (by omega)] at hc hz
  rw [hbefore]
  exact ⟨renderStages_slots_of_le h256, hcount.trans hc, hzero.trans hz⟩

/-- The pixel of a dot of the picture with rendering enabled: the mux on the registers that the dot leaves and the slots
that it began with (R1150). -/
theorem ppuStep_of_mux {s : State} (h : s.ppu.inPicture) (hr : s.ppu.renderingEnabled = true) :
    let xp := s.ppu.dot - 1
    let bg := s.ppuStep.ppu.bgPixel xp
    let sp := s.ppu.spritePixel xp
    s.ppuStep.pixel =
      some ⟨xp, s.ppu.scanline.toNat, s.ppu.colourAt (muxIndex bg s.ppuStep.ppu.bgPalette sp)⟩ ∧
    s.ppuStep.ppu.sprite0Hit = (s.ppu.sprite0Hit || sprite0Hits bg sp xp s.params.sprite0HitX255) := by
  obtain ⟨hfixed, hline, hdot, hhit, -, -, hparams⟩ := beforePixel_fields s
  rw [flagEvents_of_picture h] at hhit
  obtain ⟨hslots, hcount, hzero⟩ := beforePixel_slots h hr
  obtain ⟨hpixel, hhit'⟩ := ppuStep_pixel s
  obtain ⟨-, hmask, -, -, hx, -⟩ := ppuStep_kept s
  have hshifters : s.beforePixel.ppu.shifters = s.ppuStep.ppu.shifters :=
    ((Ppu.endOfDot_fields s.beforePixel.pixelStage.ppu).2.1.trans (pixelStage_fields s.beforePixel).2.1).symm
  simp only [Ppu.fixed, Prod.mk.injEq] at hfixed
  obtain ⟨-, hbmask, -, -, hbx, -, -, -, hpalette, -⟩ := hfixed
  have hpicture : s.beforePixel.ppu.inPicture := by rwa [Ppu.inPicture, hline, hdot]
  have henabled : s.beforePixel.ppu.renderingEnabled = true := by rwa [Ppu.renderingEnabled, hbmask]
  obtain ⟨hbg, hpal⟩ := Ppu.bgPixel_congr (hbmask.trans hmask.symm) (hbx.trans hx.symm) hshifters (s.ppu.dot - 1)
  have hsp := Ppu.spritePixel_congr hbmask hslots hcount hzero (s.ppu.dot - 1)
  dsimp only
  rw [hpixel, hhit', pixelStage_of_picture hpicture, if_pos henabled, State.muxPixel, hline, hdot, hhit, hparams]
  dsimp only
  rw [hbg, hpal, hsp, Ppu.colourAt_congr hbmask hpalette]
  exact ⟨rfl, rfl⟩

/-! ## A dot that does not render -/

/-- Only the clear of (-1, 1) is a flag event that reaches sprite-0 hit (R1110). -/
theorem flagEvents_sprite0Hit {s : State} (h : ¬ (s.ppu.scanline = -1 ∧ s.ppu.dot = 1)) :
    s.flagEvents.ppu.sprite0Hit = s.ppu.sprite0Hit := by
  rw [State.flagEvents, if_neg h]
  split
  · rw [vblankStart_ppu]
  · rfl

/-- A dot that does not render leaves sprite-0 hit to the flag events (R1110, R1151). -/
theorem ppuStep_sprite0Hit_of_idle {s : State} (h : s.ppu.renderingEnabled = false ∨ s.ppu.renderLine = false) :
    s.ppuStep.ppu.sprite0Hit = s.flagEvents.ppu.sprite0Hit := by
  by_cases hp : s.ppu.inPicture
  · have ⟨h0, h239, _, _⟩ := hp
    have hl : s.ppu.renderLine = true := s.ppu.renderLine_iff.mpr ⟨by omega, h239⟩
    have hr : s.ppu.renderingEnabled = false := h.resolve_right (by simp [hl])
    rw [(ppuStep_of_backdrop hp hr).2, flagEvents_of_picture hp]
  · exact (ppuStep_of_outside hp).2

/-- What a dot that does not render can change of the machine. -/
theorem ppuStep_eq_of_idle {s : State} (h : s.ppu.renderingEnabled = false ∨ s.ppu.renderLine = false) :
    s.ppuStep =
      { s with pixel := s.ppuStep.pixel, cpu.nmiPending := s.ppuStep.cpu.nmiPending, ppu := s.ppuStep.ppu } := by
  have hflag := flagEvents_eq s
  have hpixel := pixelStage_eq s.flagEvents
  rw [ppuStep_of_idle h]
  generalize s.flagEvents.pixelStage = u at hpixel ⊢
  generalize s.flagEvents = f at hflag hpixel
  rw [hpixel, hflag]

/-- What a dot that does not render can change of the PPU. -/
theorem ppuStep_ppu_of_idle {s : State} (h : s.ppu.renderingEnabled = false ∨ s.ppu.renderLine = false) :
    s.ppuStep.ppu = { s.ppu with
      vbl := s.ppuStep.ppu.vbl, sprite0Hit := s.ppuStep.ppu.sprite0Hit, overflow := s.ppuStep.ppu.overflow
      vblSuppress := s.ppuStep.ppu.vblSuppress, secCount := s.ppuStep.ppu.secCount
      secHasZero := s.ppuStep.ppu.secHasZero, scanline := s.ppuStep.ppu.scanline, dot := s.ppuStep.ppu.dot
      frame := s.ppuStep.ppu.frame, openBus := s.ppuStep.ppu.openBus, openBusAge := s.ppuStep.ppu.openBusAge
      sprLoLatch := s.ppuStep.ppu.sprLoLatch } := by
  have hflag := flagEvents_ppu s
  have hpixel := pixelStage_ppu s.flagEvents
  have hend := Ppu.endOfDot_eq s.flagEvents.pixelStage.ppu
  rw [ppuStep_of_idle h]
  dsimp only
  generalize s.flagEvents.pixelStage.ppu = u at hpixel hend ⊢
  generalize u.expireLatch.advance = t at hend ⊢
  generalize s.flagEvents.ppu = f at hflag hpixel
  rw [hend, hpixel, hflag]

/-- Before (260, 340) the end of a dot keeps the frame and the open-bus latch (R1105, R1002). -/
theorem Ppu.advance_frame {p : Ppu} (h : ¬ (p.scanline = 260 ∧ p.dot = 340)) :
    p.advance.frame = p.frame ∧ p.advance.openBus = p.openBus ∧ p.advance.openBusAge = p.openBusAge := by
  rcases p.advance_cases with ⟨_, _, _, _, e⟩ | ⟨_, e⟩ | ⟨_, _, e⟩ | ⟨hd, hl, _⟩
  · rw [e]; exact ⟨rfl, rfl, rfl⟩
  · rw [e]; exact ⟨rfl, rfl, rfl⟩
  · rw [e]; exact ⟨rfl, rfl, rfl⟩
  · exact absurd ⟨hl, hd⟩ h

/-- Away from (260, 340) a dot that does not render keeps the frame and the open-bus latch. -/
theorem ppuStep_frame_of_idle {s : State} (h : s.ppu.renderingEnabled = false ∨ s.ppu.renderLine = false)
    (hd : ¬ (s.ppu.scanline = 260 ∧ s.ppu.dot = 340)) :
    s.ppuStep.ppu.frame = s.ppu.frame ∧ s.ppuStep.ppu.openBus = s.ppu.openBus ∧
    s.ppuStep.ppu.openBusAge = s.ppu.openBusAge := by
  have hend : s.flagEvents.pixelStage.ppu.expireLatch =
      { s.ppu with
        vbl := s.flagEvents.ppu.vbl
        sprite0Hit := s.flagEvents.pixelStage.ppu.sprite0Hit
        overflow := s.flagEvents.ppu.overflow
        vblSuppress := s.flagEvents.ppu.vblSuppress
        secCount := s.flagEvents.ppu.secCount
        secHasZero := s.flagEvents.ppu.secHasZero
        sprLoLatch := s.flagEvents.pixelStage.ppu.expireLatch.sprLoLatch } := by
    have hflag := flagEvents_ppu s
    have hpixel := pixelStage_ppu s.flagEvents
    have hlatch : s.flagEvents.pixelStage.ppu.expireLatch =
        { s.flagEvents.pixelStage.ppu with sprLoLatch := s.flagEvents.pixelStage.ppu.expireLatch.sprLoLatch } := by
      rw [Ppu.expireLatch]
      split <;> rfl
    generalize s.flagEvents.pixelStage.ppu.expireLatch = t at hlatch ⊢
    generalize s.flagEvents.pixelStage.ppu = u at hpixel hlatch ⊢
    generalize s.flagEvents.ppu = f at hflag hpixel ⊢
    rw [hlatch, hpixel, hflag]
  rw [ppuStep_of_idle h]
  dsimp only
  rw [hend]
  exact Ppu.advance_frame hd

/-- Settles O47: the pixel stage in and out of the picture, the mux by the first visible slot, and what a dot that does
not render leaves. -/
theorem pixelSinkCalls : Obligations.PixelSinkCalls := by
  intro s t inPicture xp mask colour two sel bgPx bgIdx sprites pixel out
  obtain ⟨-, hmask, -, -, hx, -⟩ := ppuStep_kept s
  have hbg : t.ppu.bgPixel xp = bgPx := by
    rw [Ppu.bgPixel_eq, hmask, hx]
  have hpal : t.ppu.bgPalette = two (t.ppu.bgAttrHi.getLsbD sel) (t.ppu.bgAttrLo.getLsbD sel) := by
    rw [Ppu.bgPalette, twoBits_eq, hx]
  have hbgLt : bgPx < 4 := hbg ▸ Ppu.bgPixel_lt _ _
  have hpalLt := t.ppu.bgPalette_lt
  have hbgIdx : bgIdx = if bgPx = 0 then 0 else 4 * t.ppu.bgPalette + bgPx := by rw [hpal]
  have hbgIdxLt : bgIdx < 32 := by
    rw [hbgIdx]
    split <;> omega
  have hpixel : ∀ i : Fin 8, s.ppu.slots[i].pixel xp = pixel i := fun i => SpriteSlot.pixel_eq _ _
  have hcolour : ∀ idx < 32, s.ppu.colourAt idx = colour idx := fun idx h => Ppu.colourAt_eq _ h
  refine ⟨fun hp => ?_, fun hp => (ppuStep_of_outside hp).1, fun hp hr => ?_, fun hp hr => ⟨?_, ?_⟩, ?_⟩
  · have ⟨h0, h239, h1, h256⟩ := hp
    refine (?_ : ∃ c, t.pixel = some ⟨xp, s.ppu.scanline.toNat, c⟩).imp fun c hc =>
      ⟨hc, show s.ppu.dot - 1 < 256 by omega, by omega⟩
    cases hr : s.ppu.renderingEnabled
    · exact ⟨_, (ppuStep_of_backdrop hp hr).1⟩
    · exact ⟨_, (ppuStep_of_mux hp hr).1⟩
  · obtain ⟨hpx, hhit⟩ := ppuStep_of_backdrop hp hr
    rw [hcolour 0 (by decide)] at hpx
    exact ⟨hpx, by rw [hhit, Bool.or_false]⟩
  · intro i hs hi hpx hbefore attr
    obtain ⟨hpx', hhit⟩ := ppuStep_of_mux hp hr
    have hsp := Ppu.spritePixel_of_first (p := s.ppu) (xp := xp) i hs hi (by rwa [hpixel])
      (fun j hj => by rw [hpixel]; exact hbefore j hj)
    rw [hsp] at hpx' hhit
    have hne : s.ppu.slots[i].pixel xp ≠ 0 := by rwa [hpixel]
    have hmux : muxIndex (t.ppu.bgPixel xp) t.ppu.bgPalette
        ⟨s.ppu.slots[i].pixel xp, 4 + attr.toNat % 4, attr.getLsbD 5, decide (i.val = 0) && s.ppu.sprZeroInLine⟩ =
        if bgPx ≠ 0 ∧ attr.getLsbD 5 = true then bgIdx else 0x10 + 4 * (attr.toNat % 4) + pixel i := by
      rw [muxIndex_of_sprite _ _ _ _ _ hne, hbg, hpixel, ← hbgIdx]
    have hlt := hpixel i ▸ SpriteSlot.pixel_lt s.ppu.slots[i] xp
    refine ⟨hpx'.trans ?_, hhit.trans ?_⟩
    · rw [← hcolour _ (by split <;> omega), ← hmux]
    · show (s.ppu.sprite0Hit || sprite0Hits (t.ppu.bgPixel xp) _ xp _) = _
      rw [sprite0Hits_of_sprite _ _ _ _ _ _ _ hne, hbg]
  · intro hs
    obtain ⟨hpx', hhit⟩ := ppuStep_of_mux hp hr
    have hsp := Ppu.spritePixel_of_none (p := s.ppu) (xp := xp) (hs.imp id fun h i hi => by rw [hpixel]; exact h i hi)
    rw [hsp, sprite0Hits_of_none] at hhit
    rw [hsp, muxIndex_of_none] at hpx'
    refine ⟨hpx'.trans ?_, hhit⟩
    rw [← hcolour _ hbgIdxLt, hbgIdx, ← hbg]
  · intro hidle clears vblank
    have hi : s.ppu.renderingEnabled = false ∨ s.ppu.renderLine = false := by
      refine hidle.imp id fun h => Bool.eq_false_of_not_eq_true fun hl => ?_
      have h239 := (s.ppu.renderLine_iff.mp hl).2
      omega
    refine ⟨ppuStep_eq_of_idle hi, ppuStep_ppu_of_idle hi, fun hc => ?_, fun hc hv => ?_,
      fun hd _ _ => ppuStep_frame_of_idle hi hd⟩
    · have he := (ppuStep_evaluated_of_idle hi).trans (flagEvents_evaluated hc)
      obtain ⟨-, hcount, hzero, hover, -⟩ := Ppu.evaluated_inj.mp he
      exact ⟨(ppuStep_sprite0Hit_of_idle hi).trans (flagEvents_sprite0Hit hc), hover, hcount, hzero⟩
    · obtain ⟨hflags, hcpu⟩ := ppuStep_vblank s
      rw [flagEvents_of_ne hc hv] at hflags hcpu
      obtain ⟨hvbl, hsuppress⟩ := Prod.mk.inj hflags
      exact ⟨hvbl, hsuppress, congrArg Cpu.nmiPending hcpu⟩

end Sys2Proof.Machine

namespace Sys2Proof.Machine

/-! ## What no step changes

`s.given` is what the host gave the machine (R11, R18) and what a load fixed of the cartridge (R1203, R1208, R1210). Each
operation is shown to leave it as it was; for the cartridge's part, accesses put in the machine at most another version
of the cartridge that agrees in `Cartridge.given`. -/

/-- CHR memory when it is ROM (R1203). -/
def Cartridge.chrRom (c : Cartridge) : Option Memory := if c.chrBanks = 0 then none else some c.chr

/-- What a load fixes of a cartridge. -/
def Cartridge.given (c : Cartridge) :=
  (c.prgRom, c.prgBanks, c.chrBanks, c.prgRamBanks, c.mirroring, c.battery, c.mapper.number, c.prgRam.isSome, c.chrRom)

/-- What a load fixes of the cartridge in the machine, if one is in. -/
def State.givenCart (s : State) := s.cart.map Cartridge.given

/-- What no step changes of the machine. -/
def State.given (s : State) := (s.params, s.buttons1, s.buttons2, s.ppu.nmiCallbackRegistered, s.givenCart)

theorem Cartridge.withMapper_given (c : Cartridge) {m : Mapper} (h : m.number = c.mapper.number) :
    Cartridge.given { c with mapper := m } = c.given := by
  simp only [Cartridge.given, h]
  rfl

theorem Mapper.write_number (m : Mapper) (a : Word) (v : Byte) : (m.write a v).number = m.number := by
  cases m <;> rfl

theorem Cartridge.snoop_given (c : Cartridge) (n : Nat) (a : BitVec 14) : (c.snoop n a).given = c.given := by
  unfold Cartridge.snoop
  split
  · next m hm => exact c.withMapper_given (by rw [hm]; rfl)
  · rfl

theorem Cartridge.cpuClock_given (c : Cartridge) : c.cpuClock.given = c.given := by
  unfold Cartridge.cpuClock
  split
  · next m hm =>
    split
    · rfl
    · exact c.withMapper_given (by rw [hm]; rfl)
  · rfl

/-- A CPU write to the cartridge reaches its mapper's registers or its PRG-RAM (R1207, R1208). -/
theorem Cartridge.cpuWrite_given {c d : Cartridge} {a : Word} {v : Byte} (h : c.cpuWrite a v = some d) :
    d.given = c.given := by
  unfold Cartridge.cpuWrite at h
  split at h
  · cases h
    exact c.withMapper_given (c.mapper.write_number a v)
  · split at h
    · obtain ⟨m, hm, rfl⟩ := Option.map_eq_some_iff.mp h
      simp only [Cartridge.given, hm]
      rfl
    · cases h

/-- A PPU write to the cartridge reaches CHR-RAM alone (R1210). -/
theorem Cartridge.ppuWrite_given {c d : Cartridge} {a : BitVec 14} {v : Byte} (h : c.ppuWrite a v = some d) :
    d.given = c.given := by
  unfold Cartridge.ppuWrite at h
  split at h
  · split at h
    · next hr =>
      cases h
      simp only [Cartridge.chrIsRam, beq_iff_eq] at hr
      simp only [Cartridge.given, Cartridge.chrRom, hr, if_true]
    · cases h
      rfl
  · cases h

/-! ### Accesses -/

theorem snoopPpuBus_givenCart (s : State) (a : BitVec 14) : (s.snoopPpuBus a).givenCart = s.givenCart := by
  rw [State.givenCart, State.snoopPpuBus, Option.map_map]
  exact Option.map_congr fun c _ => c.snoop_given _ a

theorem afterPpuRead_givenCart (s : State) (a : BitVec 14) : (s.afterPpuRead a).givenCart = s.givenCart := by
  unfold State.afterPpuRead
  split
  · rfl
  · exact snoopPpuBus_givenCart s a

theorem afterRead_givenCart (s : State) (a : Word) : (s.afterRead a).givenCart = s.givenCart := by
  rcases afterRead_cart s a with h | ⟨b, h⟩
  · rw [State.givenCart, h, State.givenCart]
  · rw [State.givenCart, h]
    exact snoopPpuBus_givenCart s b

theorem ppuWrite_givenCart (s : State) (a : BitVec 14) (v : Byte) : (s.ppuWrite a v).givenCart = s.givenCart := by
  unfold State.ppuWrite
  split
  · rfl
  · rw [← snoopPpuBus_givenCart s a]
    generalize s.snoopPpuBus a = t
    unfold State.ppuBusWrite
    split
    · next d hd =>
      obtain ⟨c, hc, hw⟩ := Option.bind_eq_some_iff.mp hd
      simp only [State.givenCart, hc, Option.map_some, Cartridge.ppuWrite_given hw]
    · split <;> rfl

theorem regWrite_givenCart (s : State) (r : BitVec 3) (v : Byte) : (s.regWrite r v).givenCart = s.givenCart := by
  unfold State.regWrite
  dsimp only
  split
  case h_1 =>
    unfold State.writeCtrl
    dsimp only
    split
    · rw [signalNmi_eq]
      rfl
    · rfl
  case h_7 => exact ppuWrite_givenCart (s.refreshOpenBus v) _ v
  all_goals rfl

theorem dmaBytes_givenCart (s : State) (page : Byte) (n : Nat) : (s.dmaBytes page n).givenCart = s.givenCart := by
  induction n with
  | zero => rfl
  | succ n ih => exact (afterRead_givenCart _ _).trans ih

theorem oamDma_givenCart (s : State) (page : Byte) : (s.oamDma page).givenCart = s.givenCart := by
  rw [← dmaBytes_givenCart s page 256, State.oamDma]
  generalize s.dmaBytes page 256 = t
  rfl

theorem busWrite_givenCart (s : State) (a : Word) (v : Byte) : (s.busWrite a v).givenCart = s.givenCart := by
  unfold State.busWrite
  split
  · next d hd =>
    obtain ⟨c, hc, hw⟩ := Option.bind_eq_some_iff.mp hd
    simp only [State.givenCart, hc, Option.map_some, Cartridge.cpuWrite_given hw]
  · split
    · rfl
    · split
      · exact regWrite_givenCart s _ v
      · split
        · exact oamDma_givenCart s v
        · split
          · unfold State.writeStrobe
            split <;> rfl
          · rfl

/-- Two states that agree in what no instruction touches (`State.rest`) agree in what the host gave. -/
theorem State.given_of_rest {s t : State} (hr : t.rest = s.rest) (hc : t.givenCart = s.givenCart) : t.given = s.given := by
  have field {α : Type} (f : State → α) : f t.rest = f s.rest := congrArg f hr
  simp only [State.given, Prod.mk.injEq]
  exact ⟨field (·.params), field (·.buttons1), field (·.buttons2), field (·.ppu.nmiCallbackRegistered), hc⟩

theorem afterRead_given (s : State) (a : Word) : (s.afterRead a).given = s.given :=
  State.given_of_rest (afterRead_rest s a) (afterRead_givenCart s a)

theorem busWrite_given (s : State) (a : Word) (v : Byte) : (s.busWrite a v).given = s.given :=
  State.given_of_rest (busWrite_rest s a v) (busWrite_givenCart s a v)

/-! ### Instructions -/

theorem OperandEffect.given {m : Mnemonic} {f : State → Byte → State} (hf : OperandEffect m f) (s : State) (v : Byte) :
    (f s v).given = s.given := by
  rw [hf.frame]
  rfl

theorem ModifyEffect.second_given {m : Mnemonic} {f : Byte → Bool → ShiftResult} {g : State → Byte → State}
    (hf : ModifyEffect m f g) (s : State) (v : Byte) : (g s v).given = s.given := by
  rw [hf.second_frame]
  rfl

theorem Source.after_given (o : Source) (s : State) : (o.after s).given = s.given := by
  cases o with
  | imm b => rfl
  | mem mode => rw [Source.after_mem, afterRead_given]

theorem Target.modify_given (o : Target) (f : Byte → Bool → ShiftResult) (s : State) : (o.modify f s).given = s.given := by
  cases o with
  | acc => rfl
  | mem mode =>
    rw [Target.modify_mem]
    exact ((busWrite_given _ _ _).trans (busWrite_given _ _ _)).trans (afterRead_given _ _)

theorem enterHandler_given (s : State) (ret : Word) (status : Byte) {vec : Word} (h1 : 0x8000 ≤ vec.toNat)
    (h2 : 0x8000 ≤ (vec + 1).toNat) : (s.enterHandler ret status vec).given = s.given := by
  rw [enterHandler_eq s ret status vec h1 h2]
  rfl

theorem ImpliedEffect.given {m : Mnemonic} {f : State → State} (hf : ImpliedEffect m f) (s : State) :
    (f s).given = s.given := by
  cases hf with
  | pha | php => exact busWrite_given _ _ _
  | pla | plp => exact afterRead_given (s.setSp _) _
  | jmpInd => exact (afterRead_given _ _).trans (afterRead_given _ _)
  | jsr => rw [opJsr_eq]; rfl
  | rts => rw [opRts_eq]; rfl
  | rti => rw [opRti, returnFromInterrupt_eq]; rfl
  | brk => exact enterHandler_given s _ _ (by decide) (by decide)
  | _ => rfl

/-- Every instruction completes, and keeps what no step changes. -/
theorem Meaning.given {m : Mnemonic} {e : State → Result} (hm : Meaning m e) (s : State) :
    ∃ t, e s = .next t ∧ t.given = s.given := by
  cases hm with
  | read hf he => exact ⟨_, he s, (hf.given _ _).trans (Source.after_given _ s)⟩
  | store hv he => exact ⟨_, he s, by rw [storeAt_eq]; exact busWrite_given s _ _⟩
  | modify hf he => exact ⟨_, he s, (hf.second_given _ _).trans (Target.modify_given _ _ s)⟩
  | branch hc he =>
    rw [he s, branchShape]
    split <;> exact ⟨_, rfl, rfl⟩
  | implied hf he => exact ⟨_, he s, hf.given s⟩
  | unknown _ he => exact ⟨_, he s, rfl⟩

/-! ### The CPU step and the bus call -/

theorem retire_given (s : State) : s.retire.given = s.given := by
  unfold State.retire
  split <;> rfl

theorem afterFetchBytes_given (s : State) (n : Nat) : (s.afterFetchBytes n).given = s.given := by
  induction n generalizing s with
  | zero => rfl
  | succ n ih => exact (ih _).trans (afterRead_given s _)

theorem afterFetch_given (s : State) : s.afterFetch.given = s.given := by
  rw [afterFetch_eq]
  split
  · exact afterFetchBytes_given s _
  · exact afterRead_given s _

theorem runInstruction_given (s : State) : ∃ t, runInstruction s = .next t ∧ t.given = s.given := by
  obtain ⟨t, ht, hk⟩ := (exec_meaning s.fetched).given s.afterFetch
  exact ⟨_, runInstruction_of_exec ht, (retire_given t).trans (hk.trans (afterFetch_given s))⟩

theorem interruptEntry_given (s : State) (k : InterruptKind) : (s.interruptEntry k).given = s.given := by
  cases k <;> exact enterHandler_given s _ _ (by decide) (by decide)

/-- Every CPU step completes, and keeps what no step changes. -/
theorem cpuStep_given (s : State) : ∃ t, cpuStep s = .next t ∧ t.given = s.given := by
  unfold cpuStep
  split
  · exact ⟨_, rfl, rfl⟩
  · split
    · exact ⟨_, rfl, rfl⟩
    · split
      · exact ⟨_, rfl, interruptEntry_given s .nmi⟩
      · split
        · exact ⟨_, rfl, interruptEntry_given s .irq⟩
        · exact runInstruction_given s

/-- The cartridge of a dot sees at most the dot's one read (R1102). -/
theorem ppuStep_givenCart (s : State) : s.ppuStep.givenCart = s.givenCart := by
  by_cases h : s.ppu.renderingEnabled = true ∧ s.ppu.renderLine = true
  · obtain ⟨hr, hl⟩ := h
    rw [State.givenCart, ppuStep_cart_of_rendering hr hl]
    cases s.dotRead with
    | none => rfl
    | some a => exact afterPpuRead_givenCart s a
  · rw [State.givenCart, ppuStep_eq_of_idle (by simpa only [not_and_or, Bool.not_eq_true] using h)]
    rfl

theorem ppuStep_given (s : State) : s.ppuStep.given = s.given := by
  have hf := ppuStep_fixed s
  simp only [Ppu.fixed, Prod.mk.injEq] at hf
  obtain ⟨-, -, -, -, -, -, -, -, -, hcallback⟩ := hf
  rw [State.given, hcallback, ppuStep_givenCart, ppuStep_eq]
  rfl

theorem step_given {s t : State} (h : step s = .next t) : t.given = s.given := by
  by_cases hr : s.Ready
  · by_cases hc : s.clock % 3 = 0
    · obtain ⟨u, hu, hk⟩ := cpuStep_given s.beginCall
      rw [step_of_cpu_call hr hc hu] at h
      cases h
      have hclock : u.clockCartridge.tick.givenCart = u.givenCart := by
        show Option.map _ (Option.map _ u.cart) = _
        rw [Option.map_map]
        exact Option.map_congr fun c _ => c.cpuClock_given
      rw [State.given, hclock]
      exact hk.trans (ppuStep_given s)
    · rw [step_of_ppu_call hr hc] at h
      cases h
      exact ppuStep_given s
  · rw [step_of_not_ready hr] at h
    cases h

/-- Settles O58: no operation of a bus call changes `State.given`, where all that is named is read. -/
theorem stepNeverWritesRom : Obligations.StepNeverWritesRom := by
  intro s t h
  have hk := step_given h
  simp only [State.given, Prod.mk.injEq] at hk
  obtain ⟨hparams, hb1, hb2, hcallback, hcart⟩ := hk
  refine ⟨hparams, hb1, hb2, hcallback, fun c hc => ?_⟩
  rw [State.givenCart, State.givenCart, hc] at hcart
  obtain ⟨d, hd, hgiven⟩ := Option.map_eq_some_iff.mp hcart
  simp only [Cartridge.given, Prod.mk.injEq] at hgiven
  obtain ⟨hrom, hprg, hchrBanks, hram, hmirroring, hbattery, hnumber, hsome, hchr⟩ := hgiven
  refine ⟨d, hd, hrom, hprg, hchrBanks, hram, hmirroring, hbattery, hnumber, hsome, fun hne => ?_⟩
  rw [Cartridge.chrRom, Cartridge.chrRom, hchrBanks, if_neg hne, if_neg hne] at hchr
  exact Option.some.inj hchr

end Sys2Proof.Machine

namespace Sys2Proof.Machine

/-! ## Cartridge banks as numbers -/

/-- A buffer of `count` whole banks: a byte of the bank is reached, the bank number taken modulo the count (R1209). -/
theorem bankIndex_of_whole {count bank o : Nat} (b : Nat) (hcount : 1 ≤ count) (ho : o < bank) :
    bankIndex (bank * count) bank b o = b % count * bank + o := by
  have hbanks : bank * count / bank = count := Nat.mul_div_cancel_left count (by omega)
  have hlast : b % count + 1 ≤ count := Nat.mod_lt b hcount
  have hfits : b % count * bank + o < bank * count :=
    calc b % count * bank + o < (b % count + 1) * bank := by rw [Nat.succ_mul]; omega
      _ ≤ count * bank := Nat.mul_le_mul_right bank hlast
      _ = bank * count := Nat.mul_comm ..
  rw [bankIndex, hbanks, Nat.max_eq_right hcount, Nat.mod_eq_of_lt hfits]

/-- The number of 8KB banks of CHR memory; CHR-RAM is one (R1203). -/
theorem Cartridge.chrSize_eq (c : Cartridge) : c.chrSize = 8192 * if c.chrBanks = 0 then 1 else c.chrBanks := by
  unfold Cartridge.chrSize
  split <;> rfl

theorem Cartridge.chrCount_pos (c : Cartridge) : 1 ≤ if c.chrBanks = 0 then 1 else c.chrBanks := by
  split <;> omega

section
variable {c : Cartridge} {a : Word} {b : BitVec 14}

/-- A CPU read from $8000 up is of PRG-ROM (R1206). -/
theorem Cartridge.cpuRead_rom (ha : 0x8000 ≤ a.toNat) : c.cpuRead a = some (c.prgRom.read (c.prgIndex a)) := by
  rw [Cartridge.cpuRead, if_pos ha]

/-- A CPU write from $8000 up reaches the mapper's registers alone (R1208). -/
theorem Cartridge.cpuWrite_rom (v : Byte) (ha : 0x8000 ≤ a.toNat) :
    c.cpuWrite a v = some { c with mapper := c.mapper.write a v } := by
  rw [Cartridge.cpuWrite, if_pos ha]

/-- A PPU read below $2000 is of CHR memory (R1210). -/
theorem Cartridge.ppuRead_chr (hb : b.toNat < 0x2000) : c.ppuRead b = some (c.chr.read (c.chrIndex b)) := by
  rw [Cartridge.ppuRead, if_pos hb]

/-- A PPU write below $2000 is stored by CHR-RAM and ignored by CHR-ROM (R1210). -/
theorem Cartridge.ppuWrite_chr (v : Byte) (hb : b.toNat < 0x2000) :
    c.ppuWrite b v = some (if c.chrBanks = 0 then { c with chr := c.chr.write (c.chrIndex b) v } else c) := by
  simp only [Cartridge.ppuWrite, if_pos hb, Cartridge.chrIsRam, beq_iff_eq]

/-! ### The index of each variant -/

theorem Cartridge.prgIndex_flat (hm : c.mapper = .nrom ∨ ∃ bank, c.mapper = .cnrom bank) :
    c.prgIndex a = (a.toNat - 0x8000) % (16384 * c.prgBanks) := by
  rcases hm with hm | ⟨bank, hm⟩ <;> rw [Cartridge.prgIndex, hm] <;> rfl

theorem Cartridge.prgIndex_uxrom {bank : Byte} (hm : c.mapper = .uxrom bank) (hp : 1 ≤ c.prgBanks)
    (ha : 0x8000 ≤ a.toNat) :
    c.prgIndex a = if a.toNat < 0xC000 then bank.toNat % c.prgBanks * 16384 + a.toNat % 16384
      else (c.prgBanks - 1) * 16384 + a.toNat % 16384 := by
  have hoffset : (a.toNat - 0x8000) % 0x4000 = a.toNat % 16384 := by omega
  have hwhole (k : Nat) : bankIndex c.prgSize 0x4000 k ((a.toNat - 0x8000) % 0x4000) =
      k % c.prgBanks * 16384 + a.toNat % 16384 := by
    rw [hoffset]
    exact bankIndex_of_whole k hp (Nat.mod_lt _ (by decide))
  have hlast : (c.prgBanks - 1) % c.prgBanks = c.prgBanks - 1 := Nat.mod_eq_of_lt (by omega)
  rw [Cartridge.prgIndex, hm]
  simp only [hwhole, hlast, show a.toNat - 0x8000 < 0x4000 ↔ a.toNat < 0xC000 by omega]

theorem Cartridge.prgIndex_gxrom {prg chr : BitVec 2} (hm : c.mapper = .gxrom prg chr) :
    c.prgIndex a =
      (prg.toNat % max 1 (c.prgBanks / 2) * 32768 + (a.toNat - 0x8000)) % (16384 * c.prgBanks) := by
  have hcount : 16384 * c.prgBanks / 0x8000 = c.prgBanks / 2 := by omega
  rw [Cartridge.prgIndex, hm]
  simp only [bankIndex, Cartridge.prgSize, hcount]

theorem Cartridge.chrIndex_flat (hm : c.mapper = .nrom ∨ ∃ bank, c.mapper = .uxrom bank) :
    c.chrIndex b = b.toNat := by
  rcases hm with hm | ⟨bank, hm⟩ <;> rw [Cartridge.chrIndex, hm]

/-- An 8KB bank of CHR memory behind the whole of $0000-$1FFF (R1230, R1235). -/
theorem Cartridge.chrIndex_banked {bank : Nat}
    (hm : (∃ k, c.mapper = .cnrom k ∧ k.toNat = bank) ∨ ∃ prg k, c.mapper = .gxrom prg k ∧ k.toNat = bank)
    (hb : b.toNat < 0x2000) :
    c.chrIndex b = bank % (if c.chrBanks = 0 then 1 else c.chrBanks) * 8192 + b.toNat := by
  have hwhole := bankIndex_of_whole bank c.chrCount_pos hb
  rw [← c.chrSize_eq] at hwhole
  rcases hm with ⟨k, hm, rfl⟩ | ⟨prg, k, hm, rfl⟩ <;> rw [Cartridge.chrIndex, hm] <;> exact hwhole

/-- GxROM's register as numbers: bits 5-4 and bits 1-0 (R1235). -/
theorem gxrom_register (v : Byte) :
    v.extractLsb' 4 2 = BitVec.ofNat 2 (v.toNat / 16) ∧ v.extractLsb' 0 2 = BitVec.ofNat 2 v.toNat := by
  constructor <;> apply BitVec.eq_of_toNat_eq <;>
    simp [BitVec.extractLsb'_toNat, Nat.shiftRight_eq_div_pow]

end

/-- Settles O51: the accesses go through the two indexes, and each index is that of its variant. -/
theorem discreteMapperBanks : Obligations.DiscreteMapperBanks := by
  intro c a b v hp ha hb size chrCount readsPrg reachesChr writes
  have prg {k : Nat} (h : c.prgIndex a = k) : readsPrg k := h ▸ Cartridge.cpuRead_rom ha
  have chr {k : Nat} (h : c.chrIndex b = k) : reachesChr k :=
    h ▸ ⟨Cartridge.ppuRead_chr hb, Cartridge.ppuWrite_chr v hb⟩
  have write {m : Mapper} (h : c.mapper.write a v = m) : writes m := h ▸ Cartridge.cpuWrite_rom v ha
  refine ⟨fun hm => ⟨prg ?_, chr ?_, write ?_⟩, fun bank hm => ⟨prg ?_, chr ?_, write ?_⟩,
    fun bank hm => ⟨prg ?_, chr ?_, write ?_⟩, fun p k hm => ⟨prg ?_, chr ?_, write ?_⟩⟩
  · exact Cartridge.prgIndex_flat (.inl hm)
  · exact Cartridge.chrIndex_flat (.inl hm)
  · rw [hm]; rfl
  · exact Cartridge.prgIndex_uxrom hm hp ha
  · exact Cartridge.chrIndex_flat (.inr ⟨bank, hm⟩)
  · rw [hm]; rfl
  · exact Cartridge.prgIndex_flat (.inr ⟨bank, hm⟩)
  · exact Cartridge.chrIndex_banked (.inl ⟨bank, hm, rfl⟩) hb
  · rw [hm]; rfl
  · exact Cartridge.prgIndex_gxrom hm
  · exact Cartridge.chrIndex_banked (.inr ⟨p, k, hm, rfl⟩) hb
  · obtain ⟨hprg, hchr⟩ := gxrom_register v
    rw [hm, Mapper.write, hprg, hchr]

end Sys2Proof.Machine

namespace Sys2Proof.Machine

/-! ## The MMC3's registers and banks -/

/-- The decoding of MMC3 register writes as numbers (R1240): the 8KB window and the parity of the address. -/
theorem toNat_and_E001 (a : Word) : (a &&& 0xE001).toNat = a.toNat / 0x2000 * 0x2000 + a.toNat % 2 := by
  have hmask : ∀ i < 16, (0xE001 : Word).getLsbD i = (decide (13 ≤ i) || decide (i = 0)) := by decide
  have hone : ∀ i < 16, (1 : Word).getLsbD i = decide (i = 0) := by decide
  have hsplit : a &&& (0xE001 : Word) = (a >>> 13 <<< 13) ||| (a &&& (1 : Word)) := by
    apply BitVec.eq_of_getLsbD_eq
    intro i hi
    simp only [BitVec.getLsbD_or, BitVec.getLsbD_and, BitVec.getLsbD_shiftLeft, BitVec.getLsbD_ushiftRight, hmask i hi,
      hone i hi]
    by_cases h13 : 13 ≤ i
    · simp [h13, hi, show ¬ i < 13 by omega, show 13 + (i - 13) = i by omega, show i ≠ 0 by omega]
    · simp [h13, show i < 13 by omega]
  have hdisjoint : (a >>> 13 <<< 13).toNat = (a.toNat / 0x2000) <<< 13 := by
    have ha := a.isLt
    rw [BitVec.toNat_shiftLeft, BitVec.toNat_ushiftRight, Nat.shiftLeft_eq, Nat.shiftRight_eq_div_pow]
    omega
  have hlow : (a &&& (1 : Word)).toNat = a.toNat % 2 := by
    rw [BitVec.toNat_and]
    exact Nat.and_one_is_mod a.toNat
  rw [hsplit, BitVec.toNat_or, hdisjoint, hlow, ← Nat.shiftLeft_add_eq_or_of_lt (by omega), Nat.shiftLeft_eq]

section
variable {c : Cartridge} {m : Mmc3} {a : Word} {b : BitVec 14}

/-- The window and the parity select the register (R1240). -/
theorem Mmc3.write_eq (v : Byte) (ha : 0x8000 ≤ a.toNat) :
    m.write a v =
      if (a.toNat - 0x8000) / 0x2000 = 0 then
        if a.toNat % 2 = 1 then m.bankData v
        else { m with bankSelect := v.setWidth 3, prgMode := v.getLsbD 6, chrMode := v.getLsbD 7 }
      else if (a.toNat - 0x8000) / 0x2000 = 1 then
        if a.toNat % 2 = 1 then m else { m with mirroring := if v.getLsbD 0 then .horizontal else .vertical }
      else if (a.toNat - 0x8000) / 0x2000 = 2 then
        if a.toNat % 2 = 1 then { m with irqReload := true } else { m with irqLatch := v }
      else if a.toNat % 2 = 1 then { m with irqEnabled := true } else { m with irqEnabled := false, irqAsserted := false } := by
  have hlt := a.isLt
  have hdecode := toNat_and_E001 a
  have hwindow : (a.toNat - 0x8000) / 0x2000 = a.toNat / 0x2000 - 4 := by omega
  rw [hwindow]
  have hw : a.toNat / 0x2000 = 4 ∨ a.toNat / 0x2000 = 5 ∨ a.toNat / 0x2000 = 6 ∨ a.toNat / 0x2000 = 7 := by omega
  rcases hw with hw | hw | hw | hw <;> rcases Nat.mod_two_eq_zero_or_one a.toNat with hp | hp <;>
    rw [hw, hp] at hdecode <;> rw [Mmc3.write, hdecode, hw, hp] <;> rfl

/-- What bank data stores: R0 and R1 drop bit 0, R6 and R7 drop bits 7-6 (R1240). -/
theorem Mmc3.bankData_regs (m : Mmc3) (v : Byte) (k : Fin 8) :
    (m.bankData v).regs[k] =
      if k.val = m.bankSelect.toNat then (if k.val < 2 then v &&& 0xFE else if 6 ≤ k.val then v &&& 0x3F else v)
      else m.regs[k] := by
  simp only [Mmc3.bankData, Fin.getElem_fin, Vector.getElem_set, eq_comm (a := k.val)]
  split
  · next h =>
    rw [h]
    fin_cases k <;> rfl
  · rfl

/-- The PRG-ROM byte of each 8KB window (R1241). -/
theorem Cartridge.prgIndex_mmc3 (hm : c.mapper = .mmc3 m) (hp : 1 ≤ c.prgBanks) (ha : 0x8000 ≤ a.toNat) :
    c.prgIndex a = m.prgBank c.prgBanks a % (2 * c.prgBanks) * 8192 + a.toNat % 8192 := by
  have hwhole := bankIndex_of_whole (bank := 8192) (m.prgBank c.prgBanks a) (show 1 ≤ 2 * c.prgBanks by omega)
    (Nat.mod_lt a.toNat (by decide))
  have hoffset : (a.toNat - 0x8000) % 0x2000 = a.toNat % 8192 := by omega
  have hsize : 8192 * (2 * c.prgBanks) = c.prgSize := by
    rw [Cartridge.prgSize]
    omega
  rw [hsize, ← hoffset] at hwhole
  rw [Cartridge.prgIndex, hm, ← hoffset]
  exact hwhole

/-- The CHR byte of each 1KB window (R1242). -/
theorem Cartridge.chrIndex_mmc3 (hm : c.mapper = .mmc3 m) :
    c.chrIndex b = m.chrBank b % (8 * if c.chrBanks = 0 then 1 else c.chrBanks) * 1024 + b.toNat % 1024 := by
  have hcount := c.chrCount_pos
  have hwhole := bankIndex_of_whole (bank := 1024) (m.chrBank b)
    (show 1 ≤ 8 * if c.chrBanks = 0 then 1 else c.chrBanks by omega) (Nat.mod_lt b.toNat (by decide))
  have hsize : 1024 * (8 * if c.chrBanks = 0 then 1 else c.chrBanks) = c.chrSize := by
    rw [c.chrSize_eq]
    omega
  rw [hsize] at hwhole
  rw [Cartridge.chrIndex, hm]
  exact hwhole

/-- The two PRG layouts (R1241). -/
theorem Mmc3.prgBank_eq (m : Mmc3) (n : Nat) (ha : 0x8000 ≤ a.toNat) :
    m.prgBank n a =
      if (a.toNat - 0x8000) / 0x2000 = 0 then (if m.prgMode then 2 * n - 2 else m.regs[6].toNat)
      else if (a.toNat - 0x8000) / 0x2000 = 1 then m.regs[7].toNat
      else if (a.toNat - 0x8000) / 0x2000 = 2 then (if m.prgMode then m.regs[6].toNat else 2 * n - 2)
      else 2 * n - 1 := by
  have hlt := a.isLt
  have hwindow : a.toNat / 0x2000 % 4 = (a.toNat - 0x8000) / 0x2000 := by omega
  have hw : (a.toNat - 0x8000) / 0x2000 < 4 := by omega
  rw [Mmc3.prgBank, hwindow]
  interval_cases (a.toNat - 0x8000) / 0x2000 <;> rfl

/-- The two CHR layouts (R1242). -/
theorem Mmc3.chrBank_eq (m : Mmc3) (hb : b.toNat < 0x2000) :
    let slot := if m.chrMode then (b.toNat / 0x400 + 4) % 8 else b.toNat / 0x400
    m.chrBank b =
      if slot < 2 then m.regs[0].toNat + slot else if slot < 4 then m.regs[1].toNat + (slot - 2)
      else if slot = 4 then m.regs[2].toNat else if slot = 5 then m.regs[3].toNat
      else if slot = 6 then m.regs[4].toNat else m.regs[5].toNat := by
  intro slot
  have hwindow : b.toNat / 0x400 % 8 = b.toNat / 0x400 := by omega
  have hslot : slot < 8 := by
    show (if m.chrMode then _ else _) < 8
    split <;> omega
  rw [Mmc3.chrBank, hwindow]
  change (match slot with | 0 => _ | 1 => _ | 2 => _ | 3 => _ | 4 => _ | 5 => _ | 6 => _ | _ => _) = _
  clear_value slot
  interval_cases slot <;> rfl

end

/-- Settles O52: the accesses go through the two indexes, and a write selects its register by window and parity. -/
theorem mmc3Banks : Obligations.Mmc3Banks := by
  intro c m a b v hp hm ha hb n8 window bank slot chrBank odd w chrIndex
  have hprg : c.prgIndex a = bank % n8 * 8192 + a.toNat % 8192 := by
    rw [Cartridge.prgIndex_mmc3 hm hp ha, m.prgBank_eq _ ha]
  have hchr : c.chrIndex b = chrIndex := by
    rw [Cartridge.chrIndex_mmc3 hm, m.chrBank_eq hb]
  have hw : w = _ := m.write_eq v ha
  have hbits : v.setWidth 3 = BitVec.ofNat 3 v.toNat := rfl
  have hdata (h0 : window = 0) (hodd : odd) : w = m.bankData v := by rw [hw, if_pos h0, if_pos hodd]
  have window_ne {i j : Nat} (hi : window = i) (hij : i ≠ j) : ¬ window = j := hi ▸ hij
  refine ⟨hprg ▸ Cartridge.cpuRead_rom ha, hchr ▸ Cartridge.ppuRead_chr hb, hchr ▸ Cartridge.ppuWrite_chr v hb,
    (Cartridge.cpuWrite_rom v ha).trans (by rw [hm]; rfl), fun h0 hodd => ?_,
    fun h0 hodd => ⟨?_, fun k hk => ?_, fun k hk => ?_⟩, fun h1 hodd => ?_, fun h1 hodd => ?_, fun h2 hodd => ?_,
    fun h2 hodd => ?_, fun h3 hodd => ?_, fun h3 hodd => ?_⟩
  · rw [hw, if_pos h0, if_neg hodd, hbits]
  · rw [hdata h0 hodd]
    rfl
  · rw [hdata h0 hodd, m.bankData_regs, if_neg hk]
  · rw [hdata h0 hodd, m.bankData_regs, if_pos hk]
  · rw [hw, if_neg (window_ne h1 (by decide)), if_pos h1, if_neg hodd]
  · rw [hw, if_neg (window_ne h1 (by decide)), if_pos h1, if_pos hodd]
  · rw [hw, if_neg (window_ne h2 (by decide)), if_neg (window_ne h2 (by decide)), if_pos h2, if_neg hodd]
  · rw [hw, if_neg (window_ne h2 (by decide)), if_neg (window_ne h2 (by decide)), if_pos h2, if_pos hodd]
  · rw [hw, if_neg (window_ne h3 (by decide)), if_neg (window_ne h3 (by decide)), if_neg (window_ne h3 (by decide)),
      if_neg hodd]
  · rw [hw, if_neg (window_ne h3 (by decide)), if_neg (window_ne h3 (by decide)), if_neg (window_ne h3 (by decide)),
      if_pos hodd]

end Sys2Proof.Machine

namespace Sys2Proof.Machine

/-! ## The MMC3's IRQ counter (R1260-R1263) -/

section
variable (m : Mmc3)

@[simp] theorem Mmc3.clockIrq_irqLatch : m.clockIrq.irqLatch = m.irqLatch := rfl
@[simp] theorem Mmc3.clockIrq_irqEnabled : m.clockIrq.irqEnabled = m.irqEnabled := rfl

/-- A filtered rise of A12 clocks the counter (R1260). -/
theorem Mmc3.snoop_of_rise {minLow : Nat} {a : BitVec 14} (ha : a.getLsbD 12 = true) (hp : m.a12Prev = false)
    (hlow : minLow ≤ m.a12LowCycles) :
    m.snoop minLow a = { m.clockIrq with a12Prev := true, a12LowCycles := 0 } := by
  simp [Mmc3.snoop, ha, hp, hlow]

/-- Any other access only follows A12 (R1260). -/
theorem Mmc3.snoop_of_no_rise {minLow : Nat} {a : BitVec 14}
    (h : ¬ (a.getLsbD 12 = true ∧ m.a12Prev = false ∧ minLow ≤ m.a12LowCycles)) :
    m.snoop minLow a =
      { m with a12Prev := a.getLsbD 12, a12LowCycles := if a.getLsbD 12 then 0 else m.a12LowCycles } := by
  have hrise : (a.getLsbD 12 && !m.a12Prev && decide (minLow ≤ m.a12LowCycles)) = false := by
    simpa [Bool.and_eq_true, and_assoc] using h
  simp only [Mmc3.snoop, hrise, Bool.false_eq_true, if_false]

/-- A clock at 0, or after a reload request, loads the latch (R1262). -/
theorem Mmc3.clockIrq_of_reload (h : m.irqCounter = 0 ∨ m.irqReload = true) :
    m.clockIrq.irqCounter = m.irqLatch ∧ m.clockIrq.irqReload = false := by
  have hr : (m.irqCounter == 0 || m.irqReload) = true := by simpa using h
  simp only [Mmc3.clockIrq, hr, if_true, and_self]

/-- Any other clock counts down (R1262). -/
theorem Mmc3.clockIrq_of_count (h : m.irqCounter ≠ 0) (hr : m.irqReload = false) :
    m.clockIrq.irqCounter.toNat = m.irqCounter.toNat - 1 ∧ m.clockIrq.irqReload = false := by
  have hc : (m.irqCounter == 0 || m.irqReload) = false := by rw [hr, Bool.or_false, beq_eq_false_iff_ne]; exact h
  have hne : m.irqCounter.toNat ≠ 0 := fun e => h (BitVec.eq_of_toNat_eq e)
  simp only [Mmc3.clockIrq, hc, Bool.false_eq_true, if_false]
  exact ⟨by bv_omega, hr⟩

/-- The output after a clock: kept, or asserted by an enabled counter that has come to 0 (R1262, R1263). -/
theorem Mmc3.clockIrq_irqAsserted :
    m.clockIrq.irqAsserted = (m.irqAsserted || (m.clockIrq.irqCounter == 0 && m.irqEnabled)) := rfl

/-- An asserted output stays asserted under clocks. -/
theorem Mmc3.iterate_clockIrq_asserted {m : Mmc3} (h : m.irqAsserted = true) (k : Nat) :
    (Mmc3.clockIrq^[k] m).irqAsserted = true := by
  induction k with
  | zero => exact h
  | succ k ih => rw [Function.iterate_succ_apply', Mmc3.clockIrq_irqAsserted, ih, Bool.true_or]

/-- The first period of an enabled counter that stands at 0: the first clock loads the latch, each further one counts
down, and the output is asserted with 0 alone. -/
theorem Mmc3.iterate_clockIrq_period {m : Mmc3} (h0 : m.irqCounter = 0) (he : m.irqEnabled = true)
    (ha : m.irqAsserted = false) {k : Nat} (hk : k ≤ m.irqLatch.toNat) :
    (Mmc3.clockIrq^[k + 1] m).irqCounter.toNat = m.irqLatch.toNat - k ∧ (Mmc3.clockIrq^[k + 1] m).irqReload = false ∧
    (Mmc3.clockIrq^[k + 1] m).irqEnabled = true ∧
    (Mmc3.clockIrq^[k + 1] m).irqAsserted = decide (k = m.irqLatch.toNat) := by
  have zero_iff (c : Byte) (n : Nat) (hc : c.toNat = n) : (c == 0) = decide (n = 0) := by
    subst hc
    rw [Bool.eq_iff_iff, beq_iff_eq, decide_eq_true_iff, ← BitVec.toNat_inj]
    rfl
  induction k with
  | zero =>
    obtain ⟨hload, hreload⟩ := m.clockIrq_of_reload (.inl h0)
    have hout := m.clockIrq_irqAsserted
    rw [ha, he, hload, zero_iff _ _ rfl] at hout
    refine ⟨congrArg _ hload, hreload, he, hout.trans ?_⟩
    simp [eq_comm]
  | succ k ih =>
    obtain ⟨hcount, hreload, hen, has⟩ := ih (by omega)
    rw [Function.iterate_succ_apply']
    generalize Mmc3.clockIrq^[k + 1] m = u at hcount hreload hen has ⊢
    have hne : u.irqCounter ≠ 0 := fun e => by
      rw [e] at hcount
      simp at hcount
      omega
    obtain ⟨hdown, hkeep⟩ := u.clockIrq_of_count hne hreload
    have hout := u.clockIrq_irqAsserted
    rw [has, hen, zero_iff _ _ (hdown.trans (by rw [hcount]))] at hout
    refine ⟨by omega, hkeep, hen, hout.trans ?_⟩
    rw [Bool.and_true, Bool.eq_iff_iff]
    simp only [Bool.or_eq_true, decide_eq_true_eq]
    omega

/-- The period is latch + 1 clocks (R1262). -/
theorem Mmc3.iterate_clockIrq_irqAsserted {m : Mmc3} (h0 : m.irqCounter = 0) (he : m.irqEnabled = true)
    (ha : m.irqAsserted = false) (k : Nat) :
    (Mmc3.clockIrq^[k] m).irqAsserted = decide (m.irqLatch.toNat + 1 ≤ k) := by
  obtain rfl | ⟨j, rfl⟩ : k = 0 ∨ ∃ j, k = j + 1 := by cases k <;> simp
  · simpa using ha
  by_cases hj : j ≤ m.irqLatch.toNat
  · obtain ⟨-, -, -, has⟩ := Mmc3.iterate_clockIrq_period h0 he ha hj
    rw [has, decide_eq_decide]
    omega
  · obtain ⟨-, -, -, has⟩ := Mmc3.iterate_clockIrq_period h0 he ha (Nat.le_refl m.irqLatch.toNat)
    have hsum : j + 1 = (j - m.irqLatch.toNat) + (m.irqLatch.toNat + 1) := by omega
    rw [hsum, Function.iterate_add_apply, Mmc3.iterate_clockIrq_asserted (has.trans (decide_eq_true rfl)), eq_comm,
      decide_eq_true_iff]
    omega

end

/-! ### The accesses that the mapper sees -/

section
variable {s : State} {c : Cartridge} {a : BitVec 14}

theorem Cartridge.snoop_mmc3 {m : Mmc3} (hm : c.mapper = .mmc3 m) (n : Nat) :
    c.snoop n a = { c with mapper := .mmc3 (m.snoop n a) } := by
  rw [Cartridge.snoop, hm]

/-- Only the MMC3 follows the PPU bus (R1260). -/
theorem Cartridge.snoop_of_not_mmc3 (hm : c.mapper.number ≠ 4) (n : Nat) : c.snoop n a = c := by
  unfold Cartridge.snoop
  split
  · next m h => exact absurd (congrArg Mapper.number h) hm
  · rfl

/-- A read below $3F00 is on the PPU bus (R1101, R1102). -/
theorem afterPpuRead_of_bus (hc : s.cart = some c) (ha : a.toNat < 0x3F00) :
    s.afterPpuRead a = { s with cart := some (c.snoop s.params.mmc3A12M2Min a) } := by
  have hp : ¬ isPaletteAddr a = true := by rw [isPaletteAddr_iff]; omega
  rw [State.afterPpuRead, if_neg hp, State.snoopPpuBus, hc]
  rfl

/-- A palette read is not on the PPU bus (R1101). -/
theorem afterPpuRead_of_palette (ha : 0x3F00 ≤ a.toNat) : s.afterPpuRead a = s := by
  rw [State.afterPpuRead, if_pos ((isPaletteAddr_iff a).mpr ha)]

/-- A palette write is not on the PPU bus (R1101). -/
theorem ppuWrite_cart_of_palette (ha : 0x3F00 ≤ a.toNat) (v : Byte) : (s.ppuWrite a v).cart = s.cart := by
  rw [State.ppuWrite, if_pos ((isPaletteAddr_iff a).mpr ha)]

/-- A write below $3F00 is seen by the mapper, claimed or not, and stores at most a byte of CHR-RAM (R1102, R1210). -/
theorem ppuWrite_cart_of_bus (hc : s.cart = some c) (ha : a.toNat < 0x3F00) (v : Byte) :
    ∃ d, (s.ppuWrite a v).cart = some { c.snoop s.params.mmc3A12M2Min a with chr := d } := by
  by_cases hlo : a.toNat < 0x2000
  · exact ⟨_, ppuWrite_chr hc v hlo⟩
  · have hp : ¬ isPaletteAddr a = true := by rw [isPaletteAddr_iff]; omega
    refine ⟨(c.snoop s.params.mmc3A12M2Min a).chr, ?_⟩
    rw [State.ppuWrite, if_neg hp, State.ppuBusWrite, snoopPpuBus_cart hc, Option.bind_some, Cartridge.ppuWrite,
      if_neg hlo]
    dsimp only
    split
    · rfl
    · exact snoopPpuBus_cart hc a

theorem Cartridge.cpuClock_mmc3 {m : Mmc3} (hm : c.mapper = .mmc3 m) :
    c.cpuClock =
      { c with mapper := .mmc3 { m with a12LowCycles := m.a12LowCycles + (if m.a12Prev then 0 else 1) } } := by
  rw [Cartridge.cpuClock, hm]
  dsimp only
  split
  · show c = { c with mapper := .mmc3 m }
    rw [← hm]
  · rfl

theorem irqLine_eq (hc : s.cart = some c) : s.irqLine = c.irqOutput := by
  rw [State.irqLine, hc]

/-- Only the MMC3 asserts an IRQ (R1263, R1415). -/
theorem Cartridge.mmc3_of_irqOutput (h : c.irqOutput = true) : ∃ m, c.mapper = .mmc3 m ∧ m.irqAsserted = true := by
  unfold Cartridge.irqOutput at h
  split at h
  · next m hm => exact ⟨m, hm, h⟩
  · cases h

end

/-- Settles O53: the snoop by its one condition, the accesses that reach it, and the counter's first period by
induction on the clocks. -/
theorem mmc3IrqCounter : Obligations.Mmc3IrqCounter := by
  refine ⟨?snoop, ?accesses, fun c m hm => Cartridge.cpuClock_mmc3 hm,
    fun m h0 he ha k => Mmc3.iterate_clockIrq_irqAsserted h0 he ha k, fun m hr => m.clockIrq_of_reload (.inr hr),
    fun m h0 hr => (m.clockIrq_of_count h0 hr).1, ?line⟩
  case snoop =>
    intro m minLow a rise
    exact ⟨fun ⟨ha, hp, hlow⟩ => m.snoop_of_rise ha hp hlow, m.snoop_of_no_rise⟩
  case accesses =>
    intro s c a v hc
    refine ⟨fun ha => ⟨afterPpuRead_of_palette ha, (ppuWrite_cart_of_palette ha v).trans hc⟩, fun ha => ?_, fun ha => ?_⟩
    all_goals
      have hread := afterPpuRead_of_bus hc ha
      have hwrite := ppuWrite_cart_of_bus hc ha v
    · intro m hm seen
      rw [Cartridge.snoop_mmc3 hm] at hread hwrite
      exact ⟨hread, hwrite⟩
    · intro hm
      rw [Cartridge.snoop_of_not_mmc3 hm] at hread hwrite
      exact ⟨by rw [hread, ← hc], hwrite⟩
  case line =>
    intro s c hc
    rw [irqLine_eq hc]
    refine ⟨fun m hm => by rw [Cartridge.irqOutput, hm], fun hm => Bool.eq_false_of_not_eq_true fun hout => ?_⟩
    obtain ⟨m, hmapper, -⟩ := Cartridge.mmc3_of_irqOutput hout
    exact hm (congrArg Mapper.number hmapper)

end Sys2Proof.Machine

namespace Sys2Proof.Machine

/-! ## The image's header as numbers (R1201) -/

/-- The mapper number: its high digit from byte 7, its low one from byte 6 (R1201). -/
theorem toNat_mapperNumber (b7 b6 : Byte) :
    ((b7 &&& (0xF0 : Byte)) ||| (b6 >>> 4)).toNat = b7.toNat / 16 * 16 + b6.toNat / 16 := by
  have hmask : ∀ i < 8, (0xF0 : Byte).getLsbD i = decide (4 ≤ i) := by decide
  have hhigh : b7 &&& (0xF0 : Byte) = b7 >>> 4 <<< 4 := by
    apply BitVec.eq_of_getLsbD_eq
    intro i hi
    rw [BitVec.getLsbD_and, hmask i hi, BitVec.getLsbD_shiftLeft, BitVec.getLsbD_ushiftRight]
    by_cases h4 : 4 ≤ i
    · simp [h4, hi, show ¬ i < 4 by omega, show 4 + (i - 4) = i by omega]
    · simp [h4, show i < 4 by omega]
  have h7 := b7.isLt
  have h6 := b6.isLt
  have hdigit : (b7 >>> 4 <<< 4).toNat = (b7.toNat / 16) <<< 4 := by
    rw [BitVec.toNat_shiftLeft, BitVec.toNat_ushiftRight, Nat.shiftLeft_eq, Nat.shiftRight_eq_div_pow]
    omega
  have hlow : (b6 >>> 4).toNat = b6.toNat / 16 := by
    rw [BitVec.toNat_ushiftRight, Nat.shiftRight_eq_div_pow]
  rw [hhigh, BitVec.toNat_or, hdigit, hlow, ← Nat.shiftLeft_add_eq_or_of_lt (by omega), Nat.shiftLeft_eq]

/-- The mapper numbers that a load accepts, and the private state that each starts with (R141, R1204). -/
theorem Mapper.ofNumber_cases {n : Nat} {m : Mirroring} {mp : Mapper} (h : Mapper.ofNumber n m = some mp) :
    (n = 0 ∧ mp = .nrom) ∨ (n = 2 ∧ mp = .uxrom 0) ∨ (n = 3 ∧ mp = .cnrom 0) ∨
    (n = 4 ∧ mp = .mmc3 (Mmc3.initial m)) ∨ (n = 66 ∧ mp = .gxrom 0 0) := by
  unfold Mapper.ofNumber at h
  split at h <;> cases h <;> simp

theorem Mapper.ofNumber_isSome_iff (n : Nat) (m : Mirroring) :
    (Mapper.ofNumber n m).isSome = true ↔ n ∈ [0, 2, 3, 4, 66] := by
  constructor
  · intro h
    obtain ⟨mp, hmp⟩ := Option.isSome_iff_exists.mp h
    rcases Mapper.ofNumber_cases hmp with ⟨rfl, -⟩ | ⟨rfl, -⟩ | ⟨rfl, -⟩ | ⟨rfl, -⟩ | ⟨rfl, -⟩ <;> decide
  · intro h
    simp only [List.mem_cons, List.not_mem_nil, or_false] at h
    rcases h with rfl | rfl | rfl | rfl | rfl <;> rfl

/-! ## Loading -/

/-- A load succeeds when none of the conditions of R1202 holds. -/
theorem loadImage_of_good {image : List Byte} (params : Params) (draw : PowerOnState) (hm : hasMagic image = true)
    (hn : (Mapper.ofNumber (Header.ofImage image).mapper (Header.ofImage image).mirroring).isSome = true)
    (hf : (Header.ofImage image).fourScreen = false) (hp : (Header.ofImage image).prgBanks ≠ 0)
    (hl : (Header.ofImage image).declared ≤ image.length) : ∃ c, loadImage params draw image = .ok c := by
  obtain ⟨mapper, hmap⟩ := Option.isSome_iff_exists.mp hn
  unfold loadImage
  dsimp only
  rw [if_neg (by simp [hm]), hmap]
  dsimp only
  rw [if_neg (by simp [hf]), if_neg hp, if_neg (by omega)]
  exact ⟨_, rfl⟩

/-- Byte `i` of a section of an image. -/
theorem getD_take_drop {image : List Byte} {o n i : Nat} (h : i < n) :
    ((image.drop o).take n).getD i 0 = image.getD (o + i) 0 := by
  rw [List.getD_eq_getElem?_getD, List.getD_eq_getElem?_getD, List.getElem?_take, if_pos h, List.getElem?_drop]

/-- Settles O54: power-on draws its buffers; a load succeeds under the header's conditions, written as numbers, and its
cartridge is the one that `loadImage_ok` gives. -/
theorem cartridgeLoad : Obligations.CartridgeLoad := by
  refine ⟨?powerOn, ?load⟩
  case powerOn =>
    intro params draw p
    exact ⟨rfl, rfl, rfl, rfl, Memory.Inv.drawn 2048 _, fun i hi => Memory.read_drawn 2048 _ hi,
      Memory.Inv.drawn 2048 _, fun i hi => Memory.read_drawn 2048 _ hi, Memory.Inv.drawn 256 _,
      fun i hi => Memory.read_drawn 256 _ hi, Memory.Inv.drawn 32 _, fun i hi => Memory.read_drawn 32 _ hi⟩
  case load =>
    intro draw s image byte number start good mirroring t
    have hnumber : (Header.ofImage image).mapper = number := toNat_mapperNumber (byte 7) (byte 6)
    have hstart : (Header.ofImage image).prgOffset = start := by
      show 16 + (if (byte 6).getLsbD 2 then 512 else 0) = if (byte 6).getLsbD 2 then 528 else 16
      split <;> rfl
    have hdeclared : (Header.ofImage image).declared = start + 16384 * (byte 4).toNat + 8192 * (byte 5).toNat := by
      rw [← hstart]
      rfl
    have hmagic : hasMagic image = true ↔ image.take 4 = [0x4E, 0x45, 0x53, 0x1A] := beq_iff_eq
    rcases hostLoad_cases draw image s with ⟨c, hload, hhost⟩ | ⟨e, hload, hhost⟩
    · obtain ⟨hm, hf, hp, hl, mapper, hmap, hc⟩ := loadImage_ok hload
      have hsome := Option.isSome_of_eq_some hmap
      rw [Mapper.ofNumber_isSome_iff, hnumber] at hsome
      have hgood : good := ⟨hmagic.mp hm, hsome, hf, hp, hdeclared ▸ hl⟩
      refine ⟨fun h => absurd hgood h, fun _ => ⟨c, congrArg Prod.fst hhost, congrArg Prod.snd hhost,
        loadImage_inv hload, ?_⟩⟩
      rw [hnumber] at hmap
      subst hc
      refine ⟨rfl, rfl, ?_, rfl, rfl, ?_, ?_, rfl, fun m hm i hi => ?_, fun i hi => ?_, fun i hi => ?_, fun h0 i hi => ?_⟩
      · rcases Mapper.ofNumber_cases hmap with ⟨hn, rfl⟩ | ⟨hn, rfl⟩ | ⟨hn, rfl⟩ | ⟨hn, rfl⟩ | ⟨hn, rfl⟩ <;>
          exact hn.symm
      · rcases Mapper.ofNumber_cases hmap with ⟨-, rfl⟩ | ⟨-, rfl⟩ | ⟨-, rfl⟩ | ⟨-, rfl⟩ | ⟨-, rfl⟩ <;> rfl
      · exact Bool.eq_iff_iff.mpr Option.isSome_ite
      · obtain ⟨-, hdrawn⟩ := Option.ite_none_right_eq_some.mp hm
        cases hdrawn
        exact Memory.read_drawn _ _ hi
      · rw [Memory.read_ofBytes, getD_take_drop hi, hstart]
      · dsimp only at hi ⊢
        rw [if_neg (by rintro h0; rw [h0] at hi; exact Nat.not_lt_zero i hi), Memory.read_ofBytes, getD_take_drop hi,
          Header.chrOffset, hstart]
      · rw [if_pos h0]
        exact Memory.read_drawn 8192 _ hi
    · refine ⟨fun _ => ⟨congrArg Prod.fst hhost, by rw [hhost]; rfl⟩, fun ⟨hm, hn, hf, hp, hl⟩ => ?_⟩
      rw [← hnumber, ← Mapper.ofNumber_isSome_iff _ (Header.ofImage image).mirroring] at hn
      obtain ⟨c, hok⟩ := loadImage_of_good s.params draw (hmagic.mpr hm) hn hf hp (hdeclared ▸ hl)
      rw [hok] at hload
      cases hload

/-! ## Reset -/

/-- A reset in full: PC is the word that the reset bank layout shows at the vector (R1501). -/
theorem hostReset_eq (s : State) :
    hostReset s =
      { s with
        cart := s.cart.map Cartridge.resetMapper
        clock := 0
        strobe := false
        shift1 := 0
        shift2 := 0
        ppu := s.ppu.hostReset
        cpu := Cpu.hostReset s.params
          (wordOf (State.busRead { s with cart := s.cart.map Cartridge.resetMapper } 0xFFFC)
            (State.busRead { s with cart := s.cart.map Cartridge.resetMapper } 0xFFFD))
        result := .none
        pixel := none } := by
  unfold hostReset
  dsimp only
  rw [State.afterRead16, State.read16, afterRead_high _ resetVector (by decide),
    afterRead_high _ (resetVector + 1) (by decide),
    busRead_high (s := { s with cart := s.cart.map Cartridge.resetMapper }) resetVector (by decide),
    busRead_high (s := { s with cart := s.cart.map Cartridge.resetMapper }) (resetVector + 1) (by decide)] <;>
    rfl

/-- After a reset no mapper asserts an IRQ (R1270). -/
theorem Cartridge.irqOutput_resetMapper (c : Cartridge) : c.resetMapper.irqOutput = false := by
  unfold Cartridge.resetMapper Cartridge.irqOutput
  cases c.mapper <;> rfl

/-- Settles O55: the reset in full, and the mapper's reset hook. -/
theorem resetResult : Obligations.ResetResult := by
  intro s t m
  have ht : t = _ := hostReset_eq s
  rw [ht]
  refine ⟨rfl, fun c hc d hd => ?_, rfl, rfl, rfl, rfl, rfl, rfl, rfl, rfl, rfl, rfl, rfl⟩
  rw [hc] at hd
  cases hd
  exact ⟨rfl, c.irqOutput_resetMapper⟩

/-! ## The invariant at reset -/

theorem blankCartridge_inv : blankCartridge.Inv :=
  ⟨by decide, by decide, Memory.Inv.nil _, Memory.Inv.nil _, fun _ h => (by cases h), trivial⟩

/-- Settles O56: a reset of well-formed memories and a well-formed cartridge meets the invariant. -/
theorem invariantAtReset : Obligations.InvariantAtReset := by
  refine ⟨⟨⟨rfl, rfl⟩, ?_, ?_, Memory.Inv.nil _, Memory.Inv.nil _, Nat.zero_le _, Nat.zero_le _⟩, rfl, ?_⟩
  · exact ⟨by decide, by decide, Nat.zero_le _, Nat.zero_le _, Nat.zero_le _, Memory.Inv.nil _, Memory.Inv.nil _⟩
  · rintro c ⟨⟩
    exact blankCartridge_inv
  · intro params draw image hB hU loaded hok
    rcases hostLoad_cases draw image (powerOn params draw) with ⟨c, hload, hhost⟩ | ⟨e, -, hhost⟩
    · rw [show loaded = _ from hhost]
      refine ⟨hostReset_inv ⟨hB, hU⟩ (Memory.Inv.drawn 256 _) (Memory.Inv.drawn 32 _) (Memory.Inv.drawn 2048 _)
        (Memory.Inv.drawn 2048 _) ?_, ?_⟩
      · rintro d ⟨⟩
        exact loadImage_inv hload
      · rw [State.Ready, hostReset_eq]
        rfl
    · rw [show loaded = _ from hhost] at hok
      cases hok

end Sys2Proof.Machine

namespace Sys2Proof.Machine

/-! ## The CPU read and write maps, window by window (R1310, R1311) -/

/-- The number of an address tells it from any other. -/
theorem ne_of_toNat_ne {a b : Word} (h : a.toNat ≠ b.toNat) : a ≠ b := fun e => h (congrArg BitVec.toNat e)

section
variable (s : State) (a : Word) (v : Byte)

/-- The cartridge is the only one to answer from $6000 up (R1310). -/
theorem busRead_of_cart (h : 0x6000 ≤ a.toNat) : s.busRead a = (s.cartRead a).getD 0 := by
  unfold State.busRead
  rw [if_neg (by omega), if_neg (by omega), if_neg (ne_of_toNat_ne (by simp; omega)),
    if_neg (ne_of_toNat_ne (by simp; omega))]
  cases s.cartRead a <;> rfl

theorem afterRead_of_cart (h : 0x6000 ≤ a.toNat) : s.afterRead a = s :=
  afterRead_of_no_effect s a (by omega)

theorem busRead_of_ppuReg (hlo : 0x2000 ≤ a.toNat) (hhi : a.toNat ≤ 0x3FFF) :
    s.busRead a = s.regRead (ppuRegOf a) := by
  simp only [State.busRead, cartRead_of_lt s a (by omega), if_neg (show ¬ a.toNat ≤ 0x1FFF by omega), if_pos hhi]

/-- In $4000-$5FFF only the two controllers answer (R1310). -/
theorem busRead_of_io (hlo : 0x4000 ≤ a.toNat) (hhi : a.toNat ≤ 0x5FFF) :
    s.busRead a =
      if a = 0x4016 then padByte (padBit s.strobe s.shift1 s.buttons1)
      else if a = 0x4017 then padByte (padBit s.strobe s.shift2 s.buttons2) else 0 := by
  simp only [State.busRead, cartRead_of_lt s a (by omega), if_neg (show ¬ a.toNat ≤ 0x1FFF by omega),
    if_neg (show ¬ a.toNat ≤ 0x3FFF by omega)]

theorem afterRead_of_pad1 : s.afterRead 0x4016 = { s with shift1 := padShift s.strobe s.shift1 } := by
  simp only [State.afterRead, cartRead_of_lt s 0x4016 (by decide)]
  rfl

theorem afterRead_of_pad2 : s.afterRead 0x4017 = { s with shift2 := padShift s.strobe s.shift2 } := by
  simp only [State.afterRead, cartRead_of_lt s 0x4017 (by decide)]
  rfl

theorem cartRead_rom {c : Cartridge} (hc : s.cart = some c) (h : 0x8000 ≤ a.toNat) :
    s.cartRead a = some (c.prgRom.read (c.prgIndex a)) := by
  rw [State.cartRead, hc]
  exact Cartridge.cpuRead_rom h

theorem cartRead_prgRam {c : Cartridge} (hc : s.cart = some c) (hlo : 0x6000 ≤ a.toNat) (hhi : a.toNat ≤ 0x7FFF) :
    s.cartRead a = c.prgRam.map (fun m => m.read (a.toNat % 0x2000)) := by
  rw [State.cartRead, hc, Option.bind_some, Cartridge.cpuRead, if_neg (by omega), if_pos hlo]

/-! ### Writes -/

/-- What the cartridge answers to a CPU write, if it claims the address (R1311 step 1). -/
def State.cartWrite (s : State) (a : Word) (v : Byte) : Option Cartridge := s.cart.bind (fun c => c.cpuWrite a v)

/-- The cartridge is the only one to take a write from $6000 up (R1311). -/
theorem busWrite_of_cart (h : 0x6000 ≤ a.toNat) :
    s.busWrite a v = ((s.cartWrite a v).map fun c => { s with cart := some c }).getD s ∧
    s.busWriteResult a v = (s.cartWrite a v).isSome := by
  have hdma : a ≠ 0x4014 := ne_of_toNat_ne (by simp; omega)
  have hpad : a ≠ 0x4016 := ne_of_toNat_ne (by simp; omega)
  constructor
  · unfold State.busWrite
    rw [if_neg (by omega), if_neg (by omega), if_neg hdma, if_neg hpad]
    unfold State.cartWrite
    cases s.cart.bind (fun c => c.cpuWrite a v) <;> rfl
  · rw [State.busWriteResult, State.cartWrite, decide_eq_false (by omega), beq_eq_false_iff_ne.mpr hdma,
      beq_eq_false_iff_ne.mpr hpad, Bool.or_false, Bool.or_false, Bool.or_false]

theorem cartWrite_rom {c : Cartridge} (hc : s.cart = some c) (h : 0x8000 ≤ a.toNat) :
    s.cartWrite a v = some { c with mapper := c.mapper.write a v } := by
  rw [State.cartWrite, hc]
  exact Cartridge.cpuWrite_rom v h

theorem cartWrite_prgRam {c : Cartridge} (hc : s.cart = some c) (hlo : 0x6000 ≤ a.toNat) (hhi : a.toNat ≤ 0x7FFF) :
    s.cartWrite a v = c.prgRam.map (fun m => { c with prgRam := some (m.write (a.toNat % 0x2000) v) }) := by
  rw [State.cartWrite, hc, Option.bind_some, Cartridge.cpuWrite, if_neg (by omega), if_pos hlo]

theorem busWriteResult_of_lt (h : a.toNat < 0x6000) :
    s.busWriteResult a v = (decide (a.toNat ≤ 0x3FFF) || a == 0x4014 || a == 0x4016) := by
  rw [State.busWriteResult, cartWrite_of_lt s a v h]
  rfl

theorem busWrite_of_ppuReg (hlo : 0x2000 ≤ a.toNat) (hhi : a.toNat ≤ 0x3FFF) :
    s.busWrite a v = s.regWrite (ppuRegOf a) v := by
  simp only [State.busWrite, cartWrite_of_lt s a v (by omega), if_neg (show ¬ a.toNat ≤ 0x1FFF by omega), if_pos hhi]

/-- In $4000-$5FFF a write reaches OAM DMA or the strobe, or is ignored (R1311). -/
theorem busWrite_of_io (hlo : 0x4000 ≤ a.toNat) (hhi : a.toNat ≤ 0x5FFF) :
    s.busWrite a v = if a = 0x4014 then s.oamDma v else if a = 0x4016 then s.writeStrobe v else s := by
  simp only [State.busWrite, cartWrite_of_lt s a v (by omega), if_neg (show ¬ a.toNat ≤ 0x1FFF by omega),
    if_neg (show ¬ a.toNat ≤ 0x3FFF by omega)]

/-- A byte written to work RAM is read at every mirror (R1312). -/
theorem busRead_busWrite_ram {b : Word} (ha : a.toNat ≤ 0x1FFF) (hb : b.toNat ≤ 0x1FFF) :
    (s.busWrite a v).busRead b = if b.toNat % 0x800 = a.toNat % 0x800 then v else s.busRead b := by
  rw [busWrite_ram s a v ha, busRead_ram _ b hb, busRead_ram s b hb, Memory.read_write]
  simp only [eq_comm]

end

/-- Settles O35: each window has one answer. -/
theorem busReadMap : Obligations.BusReadMap := by
  intro s a
  refine ⟨fun c hc h => ?rom, fun c m hc hm hlo hhi => ?prgRam, fun c hc hm hlo hhi => ?noPrgRam,
    fun h => ⟨busRead_ram s a h, afterRead_of_ram s a h⟩,
    fun hlo hhi => ⟨busRead_of_ppuReg s a hlo hhi, afterRead_of_ppuReg s hlo hhi⟩, ?pad1, ?pad2,
    fun hlo hhi h1 h2 => ⟨?_, afterRead_of_not_pad s hlo h1 h2⟩⟩
  case rom =>
    refine ⟨?_, afterRead_high s a h⟩
    rw [busRead_of_cart s a (by omega), cartRead_rom s a hc h]
    rfl
  case prgRam | noPrgRam =>
    refine ⟨?_, afterRead_of_cart s a hlo⟩
    rw [busRead_of_cart s a hlo, cartRead_prgRam s a hc hlo hhi, hm]
    rfl
  case pad1 =>
    rintro rfl
    exact ⟨busRead_of_io s _ (by decide) (by decide), afterRead_of_pad1 s⟩
  case pad2 =>
    rintro rfl
    exact ⟨busRead_of_io s _ (by decide) (by decide), afterRead_of_pad2 s⟩
  · rw [busRead_of_io s a hlo hhi, if_neg h1, if_neg h2]

/-- Settles O36: each window takes the write in one way, and the result says whether it is taken. -/
theorem busWriteMap : Obligations.BusWriteMap := by
  intro s a v result
  have low (h : a.toNat ≤ 0x3FFF) : result = true := by
    rw [show result = _ from busWriteResult_of_lt s a v (by omega), decide_eq_true h]
    rfl
  refine ⟨fun c hc h => ?rom, fun c m hc hm hlo hhi => ?prgRam, fun c hc hm hlo hhi => ?noPrgRam,
    fun h => ⟨busWrite_ram s a v h, low (by omega), fun b hb => busRead_busWrite_ram s a v h hb⟩,
    fun hlo hhi => ⟨busWrite_of_ppuReg s a v hlo hhi, low hhi⟩, ?dma, ?strobe, fun hlo hhi h1 h2 => ⟨?_, ?_⟩⟩
  case rom =>
    obtain ⟨hwrite, hresult⟩ := busWrite_of_cart s a v (by omega)
    rw [cartWrite_rom s a v hc h] at hwrite hresult
    exact ⟨hwrite, hresult⟩
  case prgRam =>
    obtain ⟨hwrite, hresult⟩ := busWrite_of_cart s a v hlo
    rw [cartWrite_prgRam s a v hc hlo hhi, hm] at hwrite hresult
    refine ⟨hwrite, ?_, hresult⟩
    rw [hwrite, busRead_of_cart _ a hlo, cartRead_prgRam _ a rfl hlo hhi]
    exact Memory.read_write_same _ _ v
  case noPrgRam =>
    obtain ⟨hwrite, hresult⟩ := busWrite_of_cart s a v hlo
    rw [cartWrite_prgRam s a v hc hlo hhi, hm] at hwrite hresult
    exact ⟨hwrite, hresult⟩
  case dma =>
    rintro rfl
    exact ⟨busWrite_of_io s _ v (by decide) (by decide), busWriteResult_of_lt s _ v (by decide)⟩
  case strobe =>
    rintro rfl
    exact ⟨busWrite_of_io s _ v (by decide) (by decide), busWriteResult_of_lt s _ v (by decide)⟩
  · rw [busWrite_of_io s a v hlo hhi, if_neg h1, if_neg h2]
  · rw [show result = _ from busWriteResult_of_lt s a v (by omega), decide_eq_false (by omega), beq_eq_false_iff_ne.mpr h1,
      beq_eq_false_iff_ne.mpr h2]
    rfl

end Sys2Proof.Machine

namespace Sys2Proof.Machine

/-! ## The controllers (R1330, R1331) -/

/-- With the strobe at 0 the index counts the reads, up to 8 (R1330). -/
theorem iterate_padShift {x : Nat} (h : x ≤ 8) (k : Nat) : (padShift false)^[k] x = min 8 (x + k) := by
  induction k with
  | zero => simp [h]
  | succ k ih =>
    rw [Function.iterate_succ_apply', ih]
    unfold padShift
    simp only [Bool.not_false, Bool.true_and, decide_eq_true_eq]
    split <;> omega

theorem padByte_eq (b : Bool) : padByte b = 0x40 ||| (if b then 1 else 0) := by cases b <;> rfl

/-- The button of the index, and 1 after the eighth (R1330). -/
theorem padByte_padBit_min (buttons : Byte) (n : Nat) :
    padByte (padBit false (min 8 n) buttons) = if n < 8 then 0x40 ||| (if buttons.getLsbD n then 1 else 0) else 0x41 := by
  split
  · next h =>
    rw [show min 8 n = n by omega, padByte_eq]
    simp [padBit, h]
  · next h =>
    rw [show min 8 n = 8 by omega]
    rfl

section
variable (s : State)

theorem busRead_pad1 : s.busRead 0x4016 = padByte (padBit s.strobe s.shift1 s.buttons1) :=
  busRead_of_io s 0x4016 (by decide) (by decide)

theorem busRead_pad2 : s.busRead 0x4017 = padByte (padBit s.strobe s.shift2 s.buttons2) :=
  busRead_of_io s 0x4017 (by decide) (by decide)

theorem afterReads_pad1 (k : Nat) :
    s.afterReads 0x4016 k = { s with shift1 := (padShift s.strobe)^[k] s.shift1 } := by
  induction k with
  | zero => rfl
  | succ k ih => rw [State.afterReads, ih, afterRead_of_pad1, Function.iterate_succ_apply']

theorem afterReads_pad2 (k : Nat) :
    s.afterReads 0x4017 k = { s with shift2 := (padShift s.strobe)^[k] s.shift2 } := by
  induction k with
  | zero => rfl
  | succ k ih => rw [State.afterReads, ih, afterRead_of_pad2, Function.iterate_succ_apply']

/-- Writing the strobe: both indexes go to 0 when it is 1 (R1331). -/
theorem busWrite_strobe (v : Byte) : s.busWrite 0x4016 v =
    { s with
      strobe := v.getLsbD 0
      shift1 := if v.getLsbD 0 then 0 else s.shift1
      shift2 := if v.getLsbD 0 then 0 else s.shift2 } := by
  rw [busWrite_of_io s 0x4016 v (by decide) (by decide), if_neg (by decide), if_pos rfl, State.writeStrobe]
  cases v.getLsbD 0 <;> rfl

end

/-- Settles O38: each read moves the index of its port by `padShift`, and returns the button at the index. -/
theorem controllerReadSequence : Obligations.ControllerReadSequence := by
  intro s
  refine ⟨busWrite_strobe s, fun hs k => ?strobing, fun hs h1 h2 k => ?shifting⟩
  case strobing =>
    constructor
    · rw [busRead_pad1, afterReads_pad1, hs, padByte_eq]; rfl
    · rw [busRead_pad2, afterReads_pad2, hs, padByte_eq]; rfl
  case shifting =>
    rw [busRead_pad1, busRead_pad2, afterReads_pad1, afterReads_pad2, hs, iterate_padShift h1, iterate_padShift h2]
    exact ⟨padByte_padBit_min _ _, rfl, padByte_padBit_min _ _, rfl⟩

/-! ## OAM DMA, byte by byte (R1320) -/

/-- The address of byte `i` of a page. -/
theorem append_ofNat_eq (page : Byte) {i : Nat} (h : i < 256) :
    page ++ BitVec.ofNat 8 i = BitVec.ofNat 16 (256 * page.toNat + i) := by
  have hword := toNat_wordOf (BitVec.ofNat 8 i) page
  refine BitVec.eq_of_toNat_eq (hword.trans ?_)
  rw [BitVec.toNat_ofNat, BitVec.toNat_ofNat, Nat.mod_eq_of_lt h, Nat.mod_eq_of_lt (by omega)]

theorem toNat_dmaSource (page : Byte) {i : Nat} (h : i < 256) :
    (BitVec.ofNat 16 (256 * page.toNat + i)).toNat = 256 * page.toNat + i := by
  rw [BitVec.toNat_ofNat, Nat.mod_eq_of_lt (by omega)]

/-- The state with other bytes in OAM. -/
def State.withOam (s : State) (m : Memory) : State := { s with ppu := { s.ppu with oam := m } }

theorem afterRead_oamAddr (s : State) (a : Word) : (s.afterRead a).ppu.oamAddr = s.ppu.oamAddr := by
  rcases afterRead_ppu s a with h | h | ⟨b, h⟩ <;> rw [h] <;> rfl

theorem afterRead_oam (s : State) (a : Word) : (s.afterRead a).ppu.oam = s.ppu.oam := by
  rcases afterRead_ppu s a with h | h | ⟨b, h⟩ <;> rw [h] <;> rfl

section
variable (s : State) (page : Byte)

/-- One byte of the copy: the read's effect, then the byte at OAMADDR + i mod 256. -/
theorem dmaByte_of_lt {i : Nat} (h : i < 256) :
    s.dmaByte page i =
      (s.afterRead (BitVec.ofNat 16 (256 * page.toNat + i))).withOam
        (s.ppu.oam.write ((s.ppu.oamAddr.toNat + i) % 256) (s.busRead (BitVec.ofNat 16 (256 * page.toNat + i)))) := by
  have hplace (a : Word) :
      ((s.afterRead a).ppu.oamAddr + BitVec.ofNat 8 i).toNat = (s.ppu.oamAddr.toNat + i) % 256 := by
    rw [afterRead_oamAddr, BitVec.toNat_add, BitVec.toNat_ofNat, Nat.mod_eq_of_lt h]
  rw [State.dmaByte, append_ofNat_eq page h]
  dsimp only
  rw [hplace, afterRead_oam]
  rfl

theorem dmaBytes_oamAddr (n : Nat) : (s.dmaBytes page n).ppu.oamAddr = s.ppu.oamAddr := by
  induction n with
  | zero => rfl
  | succ n ih => exact (afterRead_oamAddr _ _).trans ih

/-- The first `n + 1` bytes are the first `n` and one more. -/
theorem dmaBytes_succ {n : Nat} (h : n < 256) :
    s.dmaBytes page (n + 1) =
      ((s.dmaBytes page n).afterRead (BitVec.ofNat 16 (256 * page.toNat + n))).withOam
        ((s.dmaBytes page n).ppu.oam.write ((s.ppu.oamAddr.toNat + n) % 256)
          ((s.dmaBytes page n).busRead (BitVec.ofNat 16 (256 * page.toNat + n)))) := by
  rw [State.dmaBytes, dmaByte_of_lt _ _ h, dmaBytes_oamAddr]

/-- After `n` bytes each of them stands in OAM: the 256 places differ. -/
theorem dmaBytes_oam_read {n i : Nat} (hn : n ≤ 256) (hi : i < n) :
    (s.dmaBytes page n).ppu.oam.read ((s.ppu.oamAddr.toNat + i) % 256) =
      (s.dmaBytes page i).busRead (BitVec.ofNat 16 (256 * page.toNat + i)) := by
  induction n with
  | zero => exact absurd hi (Nat.not_lt_zero i)
  | succ n ih =>
    rw [dmaBytes_succ s page (by omega)]
    dsimp only [State.withOam]
    rcases Nat.lt_succ_iff_lt_or_eq.mp hi with hlt | rfl
    · rw [Memory.read_write_ne _ _ (by omega)]
      exact ih (by omega) hlt
    · exact Memory.read_write_same _ _ _

theorem oamDma_eq : s.oamDma page =
    { s.dmaBytes page 256 with
      cpu := { s.cpu with dmaStall := s.cpu.dmaStall + 513 + s.cpu.cycleCount % 2 } } := by
  have hcpu : (s.dmaBytes page 256).cpu = s.cpu := by rw [dmaBytes_eq]
  rw [State.oamDma, hcpu]

theorem busWrite_dma : s.busWrite 0x4014 page = s.oamDma page :=
  busWrite_of_io s 0x4014 page (by decide) (by decide)

end

/-! ### The pages outside the PPU registers -/

section
variable {s : State} {a : Word} {m : Memory}

/-- Outside $2000-$3FFF no read looks at OAM. -/
theorem busRead_withOam (h : a.toNat < 0x2000 ∨ 0x4000 ≤ a.toNat) : (s.withOam m).busRead a = s.busRead a := by
  rcases h with h | h
  · rw [busRead_ram _ a (by omega), busRead_ram _ a (by omega)]
    rfl
  · unfold State.busRead
    simp only [if_neg (show ¬ a.toNat ≤ 0x1FFF by omega), if_neg (show ¬ a.toNat ≤ 0x3FFF by omega)]
    rfl

theorem afterRead_withOam (h : a.toNat < 0x2000 ∨ 0x4000 ≤ a.toNat) :
    (s.withOam m).afterRead a = (s.afterRead a).withOam m := by
  rcases h with h | h
  · rw [afterRead_of_ram _ a (by omega), afterRead_of_ram _ a (by omega)]
  · by_cases h1 : a = 0x4016
    · rw [h1, afterRead_of_pad1, afterRead_of_pad1]; rfl
    · by_cases h2 : a = 0x4017
      · rw [h2, afterRead_of_pad2, afterRead_of_pad2]; rfl
      · rw [afterRead_of_not_pad _ h h1 h2, afterRead_of_not_pad _ h h1 h2]

end

/-- The state after the first `n` reads of a page outside the PPU registers: on page $40, read $16 moves the first
controller's index and read $17 the second's (R1310, R1330). -/
def State.afterPageReads (s : State) (page : Byte) (n : Nat) : State :=
  { s with
    shift1 := if page.toNat = 0x40 ∧ 0x16 < n then padShift s.strobe s.shift1 else s.shift1
    shift2 := if page.toNat = 0x40 ∧ 0x17 < n then padShift s.strobe s.shift2 else s.shift2 }

section
variable (s : State) {page : Byte}

theorem afterPageReads_of_ne (h : page.toNat ≠ 0x40) (n : Nat) : s.afterPageReads page n = s := by
  unfold State.afterPageReads
  rw [if_neg (fun hn => h hn.1), if_neg (fun hn => h hn.1)]

theorem afterPageReads_pads (h : page.toNat = 0x40) :
    s.afterPageReads page 256 = (s.afterRead 0x4016).afterRead 0x4017 := by
  rw [afterRead_of_pad2, afterRead_of_pad1, State.afterPageReads, if_pos ⟨h, by decide⟩, if_pos ⟨h, by decide⟩]

/-- Read `n` of the page moves the index that its address names, if any. -/
theorem afterRead_afterPageReads (hpage : page.toNat < 0x20 ∨ 0x40 ≤ page.toNat) {n : Nat} (hn : n < 256) :
    (s.afterPageReads page n).afterRead (BitVec.ofNat 16 (256 * page.toNat + n)) = s.afterPageReads page (n + 1) := by
  have ha := toNat_dmaSource page hn
  by_cases h : page.toNat = 0x40
  · rw [h] at ha ⊢
    by_cases h1 : n = 0x16
    · subst h1
      rw [show BitVec.ofNat 16 (256 * 0x40 + 0x16) = (0x4016 : Word) from rfl, afterRead_of_pad1]
      simp [State.afterPageReads, h]
    · by_cases h2 : n = 0x17
      · subst h2
        rw [show BitVec.ofNat 16 (256 * 0x40 + 0x17) = (0x4017 : Word) from rfl, afterRead_of_pad2]
        simp [State.afterPageReads, h]
      · rw [afterRead_of_no_effect _ _ (by omega)]
        simp [State.afterPageReads, h, show 0x16 < n + 1 ↔ 0x16 < n by omega, show 0x17 < n + 1 ↔ 0x17 < n by omega]
  · rw [afterPageReads_of_ne s h, afterPageReads_of_ne s h, afterRead_of_no_effect _ _ (by omega)]

/-- The reads before it do not change what read `n` of the page returns. -/
theorem busRead_afterPageReads {n : Nat} (hn : n < 256) :
    (s.afterPageReads page n).busRead (BitVec.ofNat 16 (256 * page.toNat + n)) =
      s.busRead (BitVec.ofNat 16 (256 * page.toNat + n)) := by
  have ha := toNat_dmaSource page hn
  by_cases h : page.toNat = 0x40
  · rw [h] at ha ⊢
    rw [busRead_of_io _ _ (by omega) (by omega), busRead_of_io _ _ (by omega) (by omega)]
    split
    · next h1 =>
      have hn1 : ¬ 0x16 < n := by rw [h1] at ha; simp at ha; omega
      simp [State.afterPageReads, hn1]
    · split
      · next h2 =>
        have hn2 : ¬ 0x17 < n := by rw [h2] at ha; simp at ha; omega
        simp [State.afterPageReads, hn2]
      · rfl
  · rw [afterPageReads_of_ne s h]

/-- From a page outside the PPU registers the copy changes OAM and, on page $40, the controllers' indexes. -/
theorem dmaBytes_of_page (hpage : page.toNat < 0x20 ∨ 0x40 ≤ page.toNat) {n : Nat} (hn : n ≤ 256) :
    s.dmaBytes page n = (s.afterPageReads page n).withOam (s.dmaBytes page n).ppu.oam := by
  induction n with
  | zero =>
    simp [State.dmaBytes, State.withOam, State.afterPageReads]
  | succ n ih =>
    have ha := toNat_dmaSource page (show n < 256 by omega)
    rw [dmaBytes_succ s page (by omega), ih (by omega), afterRead_withOam (by omega),
      afterRead_afterPageReads s hpage (by omega)]
    rfl

/-- The byte that the copy reads there is the byte of the page before it. -/
theorem dmaBytes_busRead (hpage : page.toNat < 0x20 ∨ 0x40 ≤ page.toNat) {i : Nat} (hi : i < 256) :
    (s.dmaBytes page i).busRead (BitVec.ofNat 16 (256 * page.toNat + i)) =
      s.busRead (BitVec.ofNat 16 (256 * page.toNat + i)) := by
  have ha := toNat_dmaSource page hi
  rw [dmaBytes_of_page s hpage hi.le, busRead_withOam (by omega), busRead_afterPageReads s hi]

end

/-- Settles O37: the copy is the run of `dmaBytes`, and outside the PPU registers its reads give the page's bytes. -/
theorem oamDmaCopiesPage : Obligations.OamDmaCopiesPage := by
  intro s page t source stalled withOam
  have ht : t = stalled (s.dmaBytes page 256) := (busWrite_dma s page).trans (oamDma_eq s page)
  have hread {i : Nat} (hi : i < 256) :
      t.ppu.oam.read ((s.ppu.oamAddr.toNat + i) % 256) = (s.dmaBytes page i).busRead (source i) := by
    rw [ht]
    exact dmaBytes_oam_read s page (le_refl 256) hi
  have hpageBytes (hpage : page.toNat < 0x20 ∨ 0x40 ≤ page.toNat) {i : Nat} (hi : i < 256) :
      t.ppu.oam.read ((s.ppu.oamAddr.toNat + i) % 256) = s.busRead (source i) :=
    (hread hi).trans (dmaBytes_busRead s hpage hi)
  have hpageState (hpage : page.toNat < 0x20 ∨ 0x40 ≤ page.toNat) :
      t = stalled (withOam (s.afterPageReads page 256) t.ppu.oam) := by
    rw [ht]
    exact congrArg stalled (dmaBytes_of_page s hpage (le_refl 256))
  refine ⟨⟨s.dmaBytes page, rfl, ht, fun i hi => ⟨dmaBytes_succ s page hi, hread hi⟩⟩, fun hpage => ?pure,
    fun hpage => ?pads, ?addr, fun ha => ?sta⟩
  case pure =>
    refine ⟨?_, fun i hi => hpageBytes (by omega) hi⟩
    have h := hpageState (by omega)
    rwa [afterPageReads_of_ne s (by omega)] at h
  case pads =>
    refine ⟨?_, fun i hi => hpageBytes (by omega) hi⟩
    have h := hpageState (by omega)
    rwa [afterPageReads_pads s hpage] at h
  case addr =>
    rw [ht]
    exact dmaBytes_oamAddr s page 256
  case sta =>
    refine ⟨_, (storeShape_eq (.abs 0x4014) 4 State.valA s : exec (.staAbs 0x4014) s = _), ?_⟩
    rw [show s.busWrite (effAddr (.abs 0x4014) s) s.valA = t from congrArg (s.busWrite 0x4014) ha]
    refine ⟨rfl, ?_, rfl⟩
    rw [ht]
    show 4 + (s.cpu.dmaStall + 513 + s.cpu.cycleCount % 2) = _
    omega

end Sys2Proof.Machine

namespace Sys2Proof.Machine

/-! ## The unknown-opcode fault (R1401, R1402) -/

/-- Settles O26: all 29 rows have the one meaning. -/
theorem unknownOpcodeResult : Obligations.UnknownOpcodeResult := fun _ s hm => exec_unknown s hm

/-- What is fetched is an instruction of the opcode byte at PC (R400). -/
theorem fetched_opcode (s : State) : s.fetched.row.opcode = s.busRead s.cpu.pc :=
  List.head_eq_of_cons_eq ((encodes_rowOf _).encode_eq (build_fetched s))

theorem fetched_unknown_iff (s : State) : s.fetched.mnemonic = .unknown ↔ s.busRead s.cpu.pc ∈ unknownOpcodes := by
  rw [mnemonic_unknown_iff, fetched_opcode]

theorem afterFetch_halted (s : State) : s.afterFetch.cpu.halted = s.cpu.halted := by
  rw [afterFetch_eq]
  split
  · rw [afterFetchBytes_cpu]
  · rw [afterRead_cpu]

/-- An instruction with a descriptor completes and does not touch the fault latch. -/
theorem exec_keeps_halted {i : Instr} (hm : i.mnemonic ≠ .unknown) (s : State) :
    ∃ t, exec i s = .next t ∧ t.cpu.halted = s.cpu.halted := by
  obtain ⟨t, ht, hrest⟩ := (exec_meaning i).rest hm s
  exact ⟨t, ht, congrArg (·.cpu.halted) hrest⟩

theorem countDown_result_ne_failure (s : State) : s.countDown.result ≠ .failure := by
  unfold State.countDown
  dsimp only
  split <;> decide

/-- The instruction at PC when its opcode byte is one of the 29 (R1401). -/
theorem runInstruction_unknown {s : State} (h : s.busRead s.cpu.pc ∈ unknownOpcodes) :
    runInstruction s = .next (s.afterRead s.cpu.pc).raiseUnknownOpcode.reportFailure := by
  have hm := (fetched_unknown_iff s).mpr h
  have hafter : s.afterFetch = s.afterRead s.cpu.pc := by
    rw [afterFetch_eq, (wellFormed_eq_false_iff _).mpr hm]
    rfl
  refine (runInstruction_of_exec (exec_unknown _ hm)).trans ?_
  rw [hafter]
  rfl

/-- The instruction at PC when its opcode byte is another: it completes, and the CPU goes on. -/
theorem runInstruction_known {s : State} (hrun : s.cpu.halted = false) (h : s.busRead s.cpu.pc ∉ unknownOpcodes) :
    ∃ t : State, runInstruction s = .next t.countDown ∧ t.cpu.halted = false := by
  obtain ⟨t, ht, hkeep⟩ := exec_keeps_halted (fun hm => h ((fetched_unknown_iff s).mp hm)) s.afterFetch
  rw [afterFetch_halted, hrun] at hkeep
  refine ⟨t, (runInstruction_of_exec ht).trans ?_, hkeep⟩
  rw [State.retire, hkeep]
  rfl

/-- Settles O31: the fetch of one of the 29 stays at the opcode and raises the fault; no other instruction touches the
latch. -/
theorem unknownOpcodeFault : Obligations.UnknownOpcodeFault := by
  intro s hs
  rw [cpuStep_of_atFetch hs]
  refine ⟨fun h => ?_, fun h => ?_⟩
  · rw [runInstruction_unknown h, State.raiseUnknownOpcode, State.reportFailure, afterRead_cpu]
  · obtain ⟨t, ht, hrun⟩ := runInstruction_known hs.running h
    exact ⟨_, ht, hrun, countDown_result_ne_failure t⟩

/-- While the fault latch is set, a CPU step counts and reports the failure (R1402). -/
theorem cpuStep_of_halted {s : State} (h : s.cpu.halted = true) : cpuStep s = .next s.reportFailure := by
  rw [cpuStep, if_pos h]

theorem beginCall_cpu (s : State) : s.beginCall.cpu = { s.cpu with nmiPending := s.ppuStep.cpu.nmiPending } :=
  ppuStep_cpu s

/-- A bus call while the CPU is halted: the PPU's dot, and on a CPU call the count and the mapper's hook (R1402). -/
theorem step_of_halted {s : State} (h : s.cpu.halted = true) (hr : s.Ready) :
    step s = .next (if s.clock % 3 = 0 then s.beginCall.reportFailure.clockCartridge.tick else s.beginCall.tick) := by
  split
  · next hc =>
    exact step_of_cpu_call hr hc (cpuStep_of_halted (by rw [beginCall_cpu]; exact h))
  · next hc =>
    exact step_of_ppu_call hr hc

/-- Settles O32: a halted CPU's part of a bus call is `reportFailure`. -/
theorem haltedIsSticky : Obligations.HaltedIsSticky := by
  intro s h
  refine ⟨cpuStep_of_halted h, fun t ht => ?_, by rw [hostReset_eq]; rfl⟩
  have hr : s.Ready := by
    by_contra hn
    rw [step_of_not_ready hn] at ht
    cases ht
  have hram : s.ppuStep.ram = s.ram := by rw [ppuStep_eq]
  have hvram : s.ppuStep.vram = s.vram := by rw [ppuStep_eq]
  rw [step_of_halted h hr] at ht
  injection ht with ht
  subst ht
  by_cases hc : s.clock % 3 = 0
  · rw [if_pos hc, if_pos hc]
    refine ⟨?_, hram, hvram, rfl, fun _ => rfl⟩
    show { s.beginCall.cpu with cycleCount := s.beginCall.cpu.cycleCount + 1 } = _
    rw [beginCall_cpu]
    rfl
  · rw [if_neg hc, if_neg hc]
    exact ⟨beginCall_cpu s, hram, hvram, rfl, fun h0 => absurd h0 hc⟩

/-! ## Taking an interrupt (R1420, R1425) -/

/-- The vector of an interrupt (R203). -/
def InterruptKind.vector : InterruptKind → Word
  | .nmi => 0xFFFA
  | .irq => 0xFFFE

/-- The NMI latch after an interrupt is taken: an NMI clears it (R1410). -/
def InterruptKind.latchAfter (pending : Bool) : InterruptKind → Bool
  | .nmi => false
  | .irq => pending

/-- The entry in full: three bytes on the stack, and the CPU (R1420). -/
theorem interruptEntry_eq (s : State) (k : InterruptKind) :
    s.interruptEntry k =
      { s with
        ram := ((s.ram.write (0x100 + s.cpu.sp.toNat) (hiByte s.cpu.pc)).write (0x100 + (s.cpu.sp - 1).toNat)
          (loByte s.cpu.pc)).write (0x100 + (s.cpu.sp - 2).toNat) ((s.cpu.p &&& ~~~0x10) ||| 0x20)
        cpu := { s.cpu with
          sp := s.cpu.sp - 3
          p := s.cpu.p ||| 0x04
          pc := wordOf (s.busRead k.vector) (s.busRead (k.vector + 1))
          nmiPending := k.latchAfter s.cpu.nmiPending
          cycles := 7 } } := by
  rw [sp_sub_two, sp_sub_three]
  cases k
  · rw [State.interruptEntry, enterHandler_eq s _ _ nmiVector (by decide) (by decide)]
    rfl
  · rw [State.interruptEntry, enterHandler_eq s _ _ irqVector (by decide) (by decide)]
    rfl

/-- When a CPU step at a boundary takes an interrupt: an NMI first, then an unmasked IRQ (R1425). -/
def InterruptKind.TakenAt (s : State) : InterruptKind → Prop
  | .nmi => s.cpu.nmiPending = true
  | .irq => s.cpu.nmiPending = false ∧ s.irqLine = true ∧ flagI s.cpu.p = false

theorem cpuStep_of_taken {s : State} {k : InterruptKind} (hrun : s.cpu.halted = false) (hdone : s.cpu.cycles = 0)
    (hk : k.TakenAt s) : cpuStep s = .next (s.interruptEntry k).countDown := by
  cases k with
  | nmi =>
    have hnmi : s.cpu.nmiPending = true := hk
    simp [cpuStep, hrun, hdone, hnmi]
  | irq =>
    obtain ⟨hnmi, hline, hmask⟩ := hk
    simp [cpuStep, hrun, hdone, hnmi, hline, hmask]

/-- The steps after the first only take a cycle off (O30). -/
theorem cpuSteps_entry {s : State} {k : InterruptKind} (hrun : s.cpu.halted = false) (hdone : s.cpu.cycles = 0)
    (hk : k.TakenAt s) {n : Nat} (h1 : 1 ≤ n) : n ≤ 7 → cpuSteps s n = .next
      { s.interruptEntry k with
        cpu := { (s.interruptEntry k).cpu with cycles := 7 - n, cycleCount := s.cpu.cycleCount + n }
        result := if n = 7 then .complete else .inProgress } := by
  induction n, h1 using Nat.le_induction with
  | base =>
    intro _
    rw [cpuSteps, cpuSteps]
    refine (cpuStep_of_taken hrun hdone hk).trans ?_
    rw [interruptEntry_eq]
    rfl
  | succ n _ ih =>
    intro hle
    have hlast : (6 - n = 0) = (n = 6) := propext (by omega)
    have hrunning : (s.interruptEntry k).cpu.halted = false := by rw [interruptEntry_eq]; exact hrun
    rw [cpuSteps, ih (by omega)]
    refine (cpuStep_of_cycles_left ?_ ?_).trans ?_
    · exact hrunning
    · exact Nat.sub_ne_zero_of_lt hle
    · simp [State.countDown, Nat.sub_sub, Nat.add_assoc, hlast]

/-- Settles O33: the entry is one equation, and its steps are the first and six that count down. -/
theorem interruptEntryEffect : Obligations.InterruptEntryEffect := by
  intro s k sp vec taken entered
  have hentry : s.interruptEntry k = entered := by
    rw [interruptEntry_eq]
    cases k <;> rfl
  refine ⟨hentry, fun hrun hdone htaken n h1 hn => ?_⟩
  have hk : k.TakenAt s := by cases k <;> exact htaken
  rw [cpuSteps_entry hrun hdone hk h1 hn, hentry]

theorem flagI_or (p : Byte) : flagI (p ||| 0x04) = true := by simp [flagI]

/-- The first step of an entry: PC from the vector, I set, and six cycles left (R1420). -/
theorem cpuStep_taken_cpu {s : State} {k : InterruptKind} (hrun : s.cpu.halted = false) (hdone : s.cpu.cycles = 0)
    (hk : k.TakenAt s) :
    ∃ t, cpuStep s = .next t ∧ t.cpu.pc = wordOf (s.busRead k.vector) (s.busRead (k.vector + 1)) ∧
      t.cpu.nmiPending = k.latchAfter s.cpu.nmiPending ∧ t.cart = s.cart ∧ t.cpu.cycles = 6 ∧ flagI t.cpu.p = true := by
  refine ⟨_, cpuStep_of_taken hrun hdone hk, ?_⟩
  rw [interruptEntry_eq]
  exact ⟨rfl, rfl, rfl, rfl, flagI_or _⟩

/-- Settles O34: the branches of `cpuStep`, in order. -/
theorem interruptPriority : Obligations.InterruptPriority := by
  intro s hrun
  refine ⟨cpuStep_of_cycles_left hrun, fun hdone hnmi => ?nmi, fun hdone hnmi hline hmask => ?irq,
    fun hdone hnmi hquiet => cpuStep_of_atFetch ⟨hrun, hdone, hnmi, ?quiet⟩, fun hline => ?line⟩
  case nmi =>
    obtain ⟨t, ht, hpc, hlatch, -, hcycles, hflag⟩ := cpuStep_taken_cpu (k := .nmi) hrun hdone hnmi
    exact ⟨t, ht, hpc, hlatch, hcycles, hflag⟩
  case irq =>
    obtain ⟨t, ht, hpc, -, hcart, hcycles, hflag⟩ := cpuStep_taken_cpu (k := .irq) hrun hdone ⟨hnmi, hline, hmask⟩
    refine ⟨t, ht, hpc, ?_, hcycles, hflag⟩
    rw [State.irqLine, hcart]
    exact hline
  case quiet =>
    rcases hquiet with h | h <;> simp [h]
  case line =>
    cases hc : s.cart with
    | none => simp [State.irqLine, hc] at hline
    | some c =>
      rw [irqLine_eq hc] at hline
      obtain ⟨m, hm, hi⟩ := Cartridge.mmc3_of_irqOutput hline
      exact ⟨c, m, rfl, hm, hi⟩

end Sys2Proof.Machine
